-- ==== Sys2Proof/Word.lean ====
section
/-! DEFINITION. The byte, and nothing else: the part's two sides are lines of bytes (R172, R199). -/

namespace Sys2Proof

/-- One byte on the host link or on a field line. -/
abbrev Byte := BitVec 8

end Sys2Proof
end

