-- ==== Sys2Proof/Syntax.lean ====
section
/-! DEFINITION. The commands: one constructor of `Instr` for each row of spec/opcode_table.json, with the row's
operands. A request's operands are the fields its rule lists, as numbers on the wire: no range has been checked yet,
and a code is the number sent (R198). -/

namespace Sys2Proof

/-- A terminal, named by the pair (line, address) (R152). -/
structure TermId where
  line : Nat
  addr : Nat
  deriving DecidableEq, Repr

/-- A card serial: a string of bytes; two are equal when lengths and bytes are (00_scope, Serials). -/
abbrev Serial := List Byte

/-- A request's body: its length in bytes, and its fields, or none where its length or shape is wrong for the
request's kind (the FORMAT check of every request rule; R12, R26, R198). -/
structure Body (α : Type) where
  length : Nat
  fields : Option α
  deriving DecidableEq, Repr

/-- A crew shift window as sent: start and end minute (R3). -/
structure Window where
  start : Nat
  stop  : Nat
  deriving DecidableEq, Repr

/-- CARD-ISSUE (R13). A field the body does not carry is none; a field the kind does not hold is ignored (R2). -/
structure CardIssueReq where
  kind     : Nat
  serial   : Serial
  role     : Option Nat
  sect     : Option Nat
  window   : Option Window
  doors    : Option (List Nat)
  account  : Option Nat
  adult    : Option Nat
  package  : Option Nat
  drinkCap : Option Int
  dailyCap : Option Nat
  deriving DecidableEq, Repr

/-- CARD-REISSUE (R15). -/
structure CardReissueReq where
  record : Nat
  serial : Serial
  deriving DecidableEq, Repr

/-- CARD-STATUS (R17). -/
structure CardStatusReq where
  record : Nat
  status : Nat
  deriving DecidableEq, Repr

/-- CARD-SET: each field present or absent in the request (R18). -/
structure CardSetReq where
  record   : Nat
  role     : Option Nat
  sect     : Option Nat
  window   : Option Window
  doors    : Option (List Nat)
  account  : Option Nat
  adult    : Option Nat
  package  : Option Nat
  drinkCap : Option Int
  dailyCap : Option Nat
  deriving DecidableEq, Repr

/-- PRESENCE-SET (R45). -/
structure PresenceSetReq where
  record   : Nat
  presence : Nat
  deriving DecidableEq, Repr

/-- TRIP-OPEN (R35). -/
structure TripOpenReq where
  trip     : Nat
  boat     : Nat
  capacity : Nat
  lane     : Nat
  deriving DecidableEq, Repr

/-- TRIP-READ (R40). -/
structure TripReadReq where
  trip  : Nat
  start : Nat
  deriving DecidableEq, Repr

/-- LANE-SET: every setting is present (R52). Pacing in ms, timeouts in s. -/
structure LaneSetReq where
  lane          : Nat
  direction     : Nat
  chain         : Nat
  tripRequired  : Nat
  pacing        : Nat
  firstTimeout  : Nat
  secondTimeout : Nat
  stopLinked    : Nat
  deriving DecidableEq, Repr

/-- DOOR-CONFIG: the eight settings (R74). -/
structure DoorConfigReq where
  overrideWindow : Nat
  streakThreshold : Nat
  holdTime       : Nat
  ajarTime       : Nat
  lowTrip        : Nat
  critTrip       : Nat
  hysteresis     : Nat
  filterCount    : Nat
  deriving DecidableEq, Repr

/-- ACCOUNT-SET: four fields, each present or absent (R101). Money in cents, discount in bp. -/
structure AccountSetReq where
  account   : Nat
  balance   : Option Int
  limit     : Option Int
  allowance : Option Int
  discount  : Option Nat
  deriving DecidableEq, Repr

/-- ITEM-SET: all four fields (R105). -/
structure ItemSetReq where
  item      : Nat
  price     : Int
  category  : Nat
  adultOnly : Nat
  state     : Nat
  deriving DecidableEq, Repr

/-- OUTLET-SET: all four fields (R107). -/
structure OutletSetReq where
  outlet   : Nat
  rate     : Nat
  ceiling  : Int
  honoured : Nat
  timeout  : Nat
  deriving DecidableEq, Repr

/-- LINE-SET (R150). -/
structure LineSetReq where
  line          : Nat
  rate          : Nat
  enabled       : Nat
  slowPermitted : Nat
  deriving DecidableEq, Repr

/-- LINE-READ (R151). -/
structure LineReadReq where
  line  : Nat
  clear : Nat
  deriving DecidableEq, Repr

/-- The binding a TERM-BIND asks for (R154); `unassigned` is a binding code that is none of the five. -/
inductive BindArg where
  | unbound
  | door (number sect : Nat)
  | bar (outlet : Nat)
  | gateFirst (lane : Nat)
  | gateSecond (lane : Nat)
  | unassigned (code : Nat)
  deriving DecidableEq, Repr

/-- TERM-BIND (R154). -/
structure TermBindReq where
  term    : TermId
  binding : BindArg
  deriving DecidableEq, Repr

/-- NOTICE-LEVEL (R181). -/
structure NoticeLevelReq where
  cls   : Nat
  level : Nat
  deriving DecidableEq, Repr

/-- CLOCK-SET (R184). -/
structure ClockSetReq where
  day : Nat
  sec : Nat
  deriving DecidableEq, Repr

/-- One line of a PURCHASE: item and quantity as reported (R113). -/
structure OrderLine where
  item : Nat
  qty  : Nat
  deriving DecidableEq, Repr

/-- For each of the five store groups, yes or no: which fail their check (R201), or whose loss flag is set. -/
structure Groups where
  a : Bool
  b : Bool
  c : Bool
  d : Bool
  e : Bool
  deriving DecidableEq, Repr

/-- The two rate straps RATE1 and RATE0, high or low (R202). -/
structure Straps where
  rate1 : Bool
  rate0 : Bool
  deriving DecidableEq, Repr

/-- The two platform stop inputs (R66). -/
inductive StopInput where
  | stopA
  | stopB
  deriving DecidableEq, Repr

/-- A request of the host, by its kind, with its body (R177, R198). -/
inductive Request where
  | cardIssue (b : Body CardIssueReq)
  | cardReissue (b : Body CardReissueReq)
  | cardStatus (b : Body CardStatusReq)
  | cardSet (b : Body CardSetReq)
  | cardVacate (b : Body Nat)
  | cardRead (b : Body Nat)
  | cardFind (b : Body Serial)
  | presenceSet (b : Body PresenceSetReq)
  | conflictClear (b : Body Nat)
  | countRead (b : Body Unit)
  | tripOpen (b : Body TripOpenReq)
  | tripCastoff (b : Body Nat)
  | tripClear (b : Body Nat)
  | tripRead (b : Body TripReadReq)
  | callSet (b : Body Nat)
  | sail (b : Body Nat)
  | arrive (b : Body Unit)
  | leftRead (b : Body Nat)
  | laneSet (b : Body LaneSetReq)
  | laneRead (b : Body Nat)
  | doorConfig (b : Body DoorConfigReq)
  | doorRead (b : Body Nat)
  | doorOpen (b : Body Nat)
  | accountSet (b : Body AccountSetReq)
  | accountClose (b : Body Nat)
  | accountRead (b : Body Nat)
  | itemSet (b : Body ItemSetReq)
  | itemRead (b : Body Nat)
  | outletSet (b : Body OutletSetReq)
  | outletRead (b : Body Nat)
  | dayRoll (b : Body Unit)
  | chargeRead (b : Body Nat)
  | chargePosted (b : Body Nat)
  | lineSet (b : Body LineSetReq)
  | lineRead (b : Body LineReadReq)
  | termBind (b : Body TermBindReq)
  | termEnable (b : Body TermId)
  | termDisable (b : Body TermId)
  | termRead (b : Body TermId)
  | logMode (b : Body Nat)
  | logRead (b : Body Unit)
  | noticeLevel (b : Body NoticeLevelReq)
  | clockSet (b : Body ClockSetReq)
  | partStatus (b : Body Nat)
  | partClear (b : Body Unit)
  | partReset (b : Body Unit)
  /-- a frame whose kind names no request (R177), with its kind code and body length -/
  | unknownKind (kind : Nat) (length : Nat)
  deriving DecidableEq, Repr

/-- The commands of the part. A request command is one good request frame from the host, with its tag. -/
inductive Instr where
  /-- supply applied or RESETN released: which store groups fail their check, and the straps (R201, R202) -/
  | powerOn (fails : Groups) (straps : Straps)
  /-- the warm reset after a PART-RESET's reply has been sent (R187) -/
  | warmReset (fails : Groups) (straps : Straps)
  | cardIssue (tag : Byte) (b : Body CardIssueReq)
  | cardReissue (tag : Byte) (b : Body CardReissueReq)
  | cardStatus (tag : Byte) (b : Body CardStatusReq)
  | cardSet (tag : Byte) (b : Body CardSetReq)
  | cardVacate (tag : Byte) (b : Body Nat)
  | cardRead (tag : Byte) (b : Body Nat)
  | cardFind (tag : Byte) (b : Body Serial)
  | presenceSet (tag : Byte) (b : Body PresenceSetReq)
  | conflictClear (tag : Byte) (b : Body Nat)
  | countRead (tag : Byte) (b : Body Unit)
  | tripOpen (tag : Byte) (b : Body TripOpenReq)
  | tripCastoff (tag : Byte) (b : Body Nat)
  | tripClear (tag : Byte) (b : Body Nat)
  | tripRead (tag : Byte) (b : Body TripReadReq)
  | callSet (tag : Byte) (b : Body Nat)
  | sail (tag : Byte) (b : Body Nat)
  | arrive (tag : Byte) (b : Body Unit)
  | leftRead (tag : Byte) (b : Body Nat)
  | laneSet (tag : Byte) (b : Body LaneSetReq)
  | laneRead (tag : Byte) (b : Body Nat)
  | doorConfig (tag : Byte) (b : Body DoorConfigReq)
  | doorRead (tag : Byte) (b : Body Nat)
  | doorOpen (tag : Byte) (b : Body Nat)
  | accountSet (tag : Byte) (b : Body AccountSetReq)
  | accountClose (tag : Byte) (b : Body Nat)
  | accountRead (tag : Byte) (b : Body Nat)
  | itemSet (tag : Byte) (b : Body ItemSetReq)
  | itemRead (tag : Byte) (b : Body Nat)
  | outletSet (tag : Byte) (b : Body OutletSetReq)
  | outletRead (tag : Byte) (b : Body Nat)
  | dayRoll (tag : Byte) (b : Body Unit)
  | chargeRead (tag : Byte) (b : Body Nat)
  | chargePosted (tag : Byte) (b : Body Nat)
  | lineSet (tag : Byte) (b : Body LineSetReq)
  | lineRead (tag : Byte) (b : Body LineReadReq)
  | termBind (tag : Byte) (b : Body TermBindReq)
  | termEnable (tag : Byte) (b : Body TermId)
  | termDisable (tag : Byte) (b : Body TermId)
  | termRead (tag : Byte) (b : Body TermId)
  | logMode (tag : Byte) (b : Body Nat)
  | logRead (tag : Byte) (b : Body Unit)
  | noticeLevel (tag : Byte) (b : Body NoticeLevelReq)
  | clockSet (tag : Byte) (b : Body ClockSetReq)
  | partStatus (tag : Byte) (b : Body Nat)
  | partClear (tag : Byte) (b : Body Unit)
  | partReset (tag : Byte) (b : Body Unit)
  | unknownKindRequest (tag : Byte) (kind : Nat) (length : Nat)
  /-- a good PAUSE frame from the host (R176) -/
  | hostPause
  /-- a good RESUME frame from the host (R176) -/
  | hostResume
  | hostRxByte (b : Byte)
  | rxGapTimeout
  | rxIdleTimeout
  | txFrameBegin
  | clockSecond
  /-- the bytes of a reply frame received on a line (R162, R199) -/
  | fieldReply (line : Nat) (frame : List Byte)
  | replyTimeout (line : Nat)
  | replyGapTimeout (line : Nat)
  | probeDue (term : TermId)
  | slowSweep (line : Nat)
  | lineBreak (line : Nat)
  /-- the 1 s look at a line in FAULT, and whether its receive side is found restored (R169) -/
  | lineFaultCheck (line : Nat) (restored : Bool)
  | doorPresent (term : TermId) (serial : Serial)
  | doorPrivacy (term : TermId) (on : Bool)
  | doorContact (term : TermId) (isOpen : Bool)
  | openAck (term : TermId)
  | showAck (term : TermId)
  | overrideWindowExpiry (term : TermId)
  | holdExpiry (term : TermId)
  | ajarExpiry (term : TermId)
  | streakQuietExpiry (term : TermId)
  | gatePresent (term : TermId) (serial : Serial)
  | pacingTick (lane : Nat)
  | releaseAck (term : TermId)
  | revokeAck (term : TermId)
  | gatePassed (term : TermId)
  | firstGateTimeout (lane : Nat)
  | secondGateTimeout (lane : Nat)
  | stopInputChange (input : StopInput) (asserted : Bool)
  | barPurchase (term : TermId) (serial : Serial) (lines : List OrderLine)
  | barKeyConfirm (term : TermId)
  | barKeyCancel (term : TermId)
  | quoteExpiry (term : TermId)
  | quoteAck (term : TermId)
  | resultAck (term : TermId)
  | lossOfSupply
  deriving DecidableEq, Repr

end Sys2Proof
end

