-- ==== Sys2Proof/Decode.lean ====
section
/-! DEFINITION. The command a word spells by the table's bits: the opcode table gives no row any bits, so no word spells
one (log 36). The bytes of the host link and of the field lines are read in Machine/Operands.lean and Machine/Wire.lean. -/

namespace Sys2Proof

def decodeTableWord (_nbits _w : Nat) : Option Instr := none

end Sys2Proof
end

