-- ==== Sys2Proof/Machine/Table.lean ====
section
/-! DEFINITION. Numbered records: a list of (number, record) pairs, numbers strictly rising. A `Table` read with
`find` holds only the records in use; one read with `look` has a default that an unlisted number reads as, and `put`
of the default removes the entry, so that equal contents are equal data. -/

namespace Sys2Proof.Machine

abbrev Table (α : Type) := List (Nat × α)

/-- The record numbered n, if there is one. -/
def Table.find {α : Type} : Table α → Nat → Option α
  | [], _ => none
  | (k, v) :: t, n => if k = n then some v else Table.find t n

/-- Writes record n, in its place by number. -/
def Table.insert {α : Type} : Table α → Nat → α → Table α
  | [], n, v => [(n, v)]
  | (k, w) :: t, n, v =>
    if n < k then (n, v) :: (k, w) :: t
    else if n = k then (n, v) :: t
    else (k, w) :: Table.insert t n v

/-- Removes record n. -/
def Table.erase {α : Type} (t : Table α) (n : Nat) : Table α :=
  t.filter (fun p => p.1 != n)

/-- Changes record n where there is one. -/
def Table.modify {α : Type} (t : Table α) (n : Nat) (f : α → α) : Table α :=
  match t.find n with
  | some v => t.insert n (f v)
  | none => t

/-- Changes every record. -/
def Table.mapVals {α : Type} (t : Table α) (f : α → α) : Table α :=
  t.map (fun p => (p.1, f p.2))

/-- The record numbered n of a table whose unlisted numbers read as d. -/
def Table.look {α : Type} (d : α) (t : Table α) (n : Nat) : α :=
  (t.find n).getD d

/-- Writes record n of a table whose unlisted numbers read as d. -/
def Table.put {α : Type} [DecidableEq α] (d : α) (t : Table α) (n : Nat) (v : α) : Table α :=
  if v = d then t.erase n else t.insert n v

/-- The lowest number from n on that the table does not list; fuel bounds the search. -/
def Table.lowestFree {α : Type} (t : Table α) : Nat → Nat → Nat
  | 0, n => n
  | fuel + 1, n => if (t.find n).isSome then Table.lowestFree t fuel (n + 1) else n

/-- The numbers strictly rise. -/
abbrev Table.sorted {α : Type} (t : Table α) : Prop :=
  t.Pairwise (fun p q => p.1 < q.1)

end Sys2Proof.Machine
end

