-- ==== Sys2Proof/Machine/State.lean ====
section
/-! DEFINITION. Everything the spec gives the part to hold, as plain data, and the state after reset. One structure for
each block of 00_scope.md. A setter `State.with…` for each part is beside `State`; the lemmas about them are in
Sys2Proof/Laws/State.lean. -/

namespace Sys2Proof.Machine

/-! ## Codes and names -/

/-- The statuses of replies and the outcomes shown at terminals: one code table serves both (R179, R198). -/
inductive Code where
  | ok | unknownKind | format | range | notFound | alreadyExists | full | busy | wrongState | pending | ashore
  | conflict | store
  | withdrawn | unknown | suspended | lost | notPermitted | wrongWay | laneDown | stopped | closed | noBoat | item
  | age | noAccount | ceiling | credit | allowance
  | held | overrideWait | battery | privacy | opened
  | reissued | passage | late
  | approved | cancelled | expired | voided
  deriving DecidableEq, Repr

/-- The eight notice classes (R181). -/
inductive NoticeClass where
  | access | presence | part | passage | terminal | card | platform | charge
  deriving DecidableEq, Repr

/-- The notices, class by class (R198). -/
inductive NoticeName where
  | masterOpen | overrideStart | overrideDone | holdStart | hostOpenDone | hostOpenFailed | forced | ajar | closedAgain
  | conflictSet | conflictCleared
  | start | overrun | logFill
  | completed | notTaken | incomplete | uncertain | cancelled | stray
  | offline | online | mismatch | lineFault | lineRestored | battery
  | withdrawnSeen | lostSeen
  | stopAsserted | stopReleased
  | warningSet | warningCleared | backlogHigh | backlogLow
  deriving DecidableEq, Repr

/-- The ship clock's reading; none where the clock is UNSET (R184). -/
structure ShipTime where
  day : Nat
  sec : Nat
  deriving DecidableEq, Repr

/-- One field of a reply or notice body, by its type on the host link (R198). -/
inductive Field where
  /-- one byte: a count or duration of at most 255, or a state or code that always has a value -/
  | u1 (n : Nat)
  /-- two bytes: a count or duration of at most 65,535 -/
  | u2 (n : Nat)
  /-- a line, address, lane, outlet, boat, section, level, state or code; none as FFh -/
  | code (n : Option Nat)
  /-- a record, account, item or door number; none as FFFFh -/
  | num (n : Option Nat)
  /-- an amount of money, signed -/
  | money (v : Int)
  /-- a sequence number; none as 0 -/
  | seq (n : Option Nat)
  /-- a trip; no trip as 0 -/
  | trip (n : Nat)
  /-- a time on the millisecond base; none as FFFFFFFFh -/
  | ms (t : Option Nat)
  /-- a terminal; absent as 00h 00h -/
  | term (t : Option TermId)
  /-- a ship time, or the UNSET marker -/
  | time (t : Option ShipTime)
  | serial (s : Serial)
  | flag (b : Bool)
  /-- a field of the given width that is marked absent and whose type has no absent encoding -/
  | absent (width : Nat)
  deriving DecidableEq, Repr

/-! ## The card register (R1 to R7) -/

/-- The status of a card in use; a VACANT record is not listed (R1). -/
inductive CardStatus where
  | active | suspended | lost
  deriving DecidableEq, Repr

inductive CardKind where
  | guest | crew | master
  deriving DecidableEq, Repr

inductive Role where
  | attendant | security | other
  deriving DecidableEq, Repr

inductive Package where
  | noPackage | soft | standard | premium
  deriving DecidableEq, Repr

inductive Presence where
  | aboard | ashore
  deriving DecidableEq, Repr

/-- Why a conflict is set (R28). -/
inductive ConflictReason where
  | ashoreUse | uncertainPassage | missedReturn | missedDeparture
  deriving DecidableEq, Repr

/-- A non-VACANT card record (R2). A field the card's kind or role does not hold stands at none, the empty list, 0, no,
NONE or ABOARD, and is never read or shown. -/
structure Card where
  status     : CardStatus
  kind       : CardKind
  serial     : Serial
  role       : Option Role
  sect       : Option Nat
  window     : Option Window
  doors      : List Nat
  account    : Nat
  adult      : Bool
  package    : Package
  drinkCap   : Nat
  dailyCap   : Nat
  drinksUsed : Nat
  drinksHeld : Nat
  presence   : Presence
  trip       : Nat
  conflict   : Option ConflictReason
  quote      : Option TermId
  passage    : Option Nat
  deriving DecidableEq, Repr

/-- The register: the records in use by number, the serial index and the withdrawn list, oldest first (R1, R6, R7). -/
structure Register where
  cards     : Table Card
  index     : List (Serial × Nat)
  withdrawn : List Serial
  deriving DecidableEq, Repr

/-! ## The presence unit (R24 to R48) -/

inductive TripState where
  | loading | afloat | complete
  deriving DecidableEq, Repr

/-- A manifest entry (R33). -/
structure ManifestEntry where
  record       : Nat
  time         : Option ShipTime
  returned     : Bool
  byCorrection : Bool
  deriving DecidableEq, Repr

/-- A trip in use; its manifest is oldest first (R33). -/
structure Trip where
  boat     : Nat
  capacity : Nat
  lane     : Nat
  state    : TripState
  manifest : List ManifestEntry
  deriving DecidableEq, Repr

/-- The call state OPEN, CLOSING or SAILING (R41). -/
inductive CallState where
  | callOpen | closing | sailing
  deriving DecidableEq, Repr

structure PresenceUnit where
  aboard     : Nat
  ashore     : Nat
  conflicts  : Nat
  trips      : Table Trip
  call       : CallState
  leftBehind : List Nat
  deriving DecidableEq, Repr

/-! ## The lane controller (R49 to R72) -/

inductive Direction where
  | out | inward
  deriving DecidableEq, Repr

inductive Chain where
  | single | double
  deriving DecidableEq, Repr

inductive PassageState where
  | waitingPace | firstSending | firstReleased | firstRevoking | secondSending | secondReleased | secondRevoking
  deriving DecidableEq, Repr

/-- How a passage ends; CANCELLED carries its reason (R70). -/
inductive PassageOutcome where
  | completed | notTaken | incomplete | uncertain
  | cancelled (reason : Code)
  deriving DecidableEq, Repr

/-- A passage in flight (R57). -/
structure Passage where
  card          : Nat
  grantTime     : Nat
  direction     : Direction
  trip          : Nat
  state         : PassageState
  expiry        : Option Nat
  releasePlaced : Bool
  deriving DecidableEq, Repr

/-- A lane record (R50), with the time its pacing timer last started from zero (R58, R72). -/
structure Lane where
  direction     : Direction
  chain         : Chain
  first         : Option TermId
  second        : Option TermId
  tripRequired  : Bool
  trip          : Nat
  pacing        : Nat
  firstTimeout  : Nat
  secondTimeout : Nat
  stopLinked    : Option StopInput
  passage       : Option Passage
  pacingStart   : Nat
  deriving DecidableEq, Repr

/-- A lane after store initialisation of group D (R50). -/
def Lane.initial : Lane :=
  { direction := .out, chain := .single, first := none, second := none, tripRequired := false, trip := 0, pacing := 0,
    firstTimeout := 15, secondTimeout := 20, stopLinked := none, passage := none, pacingStart := 0 }

/-- The lane state, which follows from other state (R51). -/
inductive LaneState where
  | down | busy | idle
  deriving DecidableEq, Repr

/-- One stop input's debouncer: its debounced level (asserted or not) and the last sample since the start (R66). -/
structure Debounce where
  asserted : Bool
  last     : Option Bool
  deriving DecidableEq, Repr

structure Stops where
  stopA : Debounce
  stopB : Debounce
  deriving DecidableEq, Repr

/-! ## The door controller (R73 to R96) -/

inductive Contact where
  | contactOpen | contactClosed | unknown
  deriving DecidableEq, Repr

inductive Alarm where
  | noAlarm | forced | ajar | forcedAndAjar
  deriving DecidableEq, Repr

inductive BatteryState where
  | unknown | good | low | critical
  deriving DecidableEq, Repr

/-- An override WINDOW: the first card and the expiry (R73, R82). -/
structure OverrideWindow where
  first  : Nat
  expiry : Nat
  deriving DecidableEq, Repr

/-- A HOLD: its expiry and held count (R73, R86). -/
structure Hold where
  expiry : Nat
  held   : Nat
  deriving DecidableEq, Repr

/-- A running ajar timing: when it expires, and the ajar time it was started with in s (R92). -/
structure AjarTiming where
  due  : Nat
  time : Nat
  deriving DecidableEq, Repr

/-- A battery filter run: the target and the readings so far that agree on it (R73, R93). -/
structure FilterRun where
  target : BatteryState
  count  : Nat
  deriving DecidableEq, Repr

/-- A door record (R73). `window` none is override IDLE. `openCard` is the card whose OPEN is outstanding (R87; log 28). -/
structure Door where
  number     : Nat
  sect       : Nat
  privacy    : Bool
  contact    : Contact
  openSince  : Option Nat
  alarm      : Alarm
  window     : Option OverrideWindow
  streak     : Nat
  streakTime : Option Nat
  hold       : Option Hold
  battery    : BatteryState
  run        : Option FilterRun
  lastOpen   : Option Nat
  hostOpen   : Bool
  ajar       : Option AjarTiming
  openCard   : Option Nat
  deriving DecidableEq, Repr

/-- A door record at start and at bind (R76). R76 gives the streak and no time of a last counted refusal: none is the model's
choice (log 39). -/
def Door.initial (number sect : Nat) : Door :=
  { number, sect, privacy := false, contact := .unknown, openSince := none, alarm := .noAlarm, window := none,
    streak := 0, streakTime := none, hold := none, battery := .unknown, run := none, lastOpen := none,
    hostOpen := false, ajar := none, openCard := none }

/-- The eight door settings, times in s (R74). -/
structure DoorSettings where
  overrideWindow  : Nat
  streakThreshold : Nat
  holdTime        : Nat
  ajarTime        : Nat
  lowTrip         : Nat
  critTrip        : Nat
  hysteresis      : Nat
  filterCount     : Nat
  deriving DecidableEq, Repr

def DoorSettings.initial : DoorSettings :=
  { overrideWindow := 30, streakThreshold := 5, holdTime := 120, ajarTime := 60, lowTrip := 150, critTrip := 120,
    hysteresis := 8, filterCount := 4 }

/-- The door records by terminal, and the settings. -/
structure DoorUnit where
  records  : Table Door
  settings : DoorSettings
  deriving DecidableEq, Repr

/-! ## The tariff and account store (R97 to R112) -/

/-- An OPEN account; a CLOSED one is not listed (R97). -/
structure Account where
  balance   : Int
  limit     : Nat
  allowance : Nat
  pending   : Nat
  held      : Nat
  discount  : Nat
  warning   : Bool
  deriving DecidableEq, Repr

inductive Category where
  | food | soft | beerWine | spirit | premium | retail
  deriving DecidableEq, Repr

/-- A written item; an UNSET one is not listed (R105). `active` no is WITHDRAWN. -/
structure Item where
  price     : Nat
  category  : Category
  adultOnly : Bool
  active    : Bool
  deriving DecidableEq, Repr

/-- An outlet (R107): rate in bp, ceiling in cents, timeout in s. -/
structure Outlet where
  rate     : Nat
  ceiling  : Nat
  honoured : Bool
  timeout  : Nat
  deriving DecidableEq, Repr

/-- An outlet after store initialisation of group C (R107). -/
def Outlet.initial : Outlet :=
  { rate := 0, ceiling := 100, honoured := false, timeout := 60 }

structure Tariff where
  accounts : Table Account
  items    : Table Item
  outlets  : Table Outlet
  deriving DecidableEq, Repr

/-! ## The purchase unit and the posting queue (R113 to R148) -/

/-- One priced line of a quote or charge record (R126, R138). -/
structure QuoteLine where
  item    : Nat
  qty     : Nat
  covered : Nat
  net     : Nat
  deriving DecidableEq, Repr

/-- An open quote (R126). -/
structure Quote where
  card     : Nat
  account  : Nat
  outlet   : Nat
  lines    : List QuoteLine
  subtotal : Nat
  service  : Nat
  total    : Nat
  drinks   : Nat
  expiry   : Nat
  shown    : Bool
  deriving DecidableEq, Repr

/-- What a RESULT carries (R114). -/
inductive ResultContent where
  | approved (total seq : Nat)
  | cancelled
  | expired
  | voided (reason : Code)
  deriving DecidableEq, Repr

/-- A command for a terminal, with its content (R152, R199). -/
inductive Command where
  | openLock
  | show (outcome : Code)
  | release
  | revoke
  | quote (total service drinks : Nat)
  | result (r : ResultContent)
  deriving DecidableEq, Repr

/-- A bar terminal's slot (R113). -/
structure Slot where
  outlet  : Nat
  quote   : Option Quote
  waiting : Option Command
  deriving DecidableEq, Repr

/-- A charge record (R138). -/
structure Charge where
  sequence : Nat
  account  : Nat
  card     : Nat
  outlet   : Nat
  terminal : TermId
  time     : Option ShipTime
  lines    : List QuoteLine
  subtotal : Nat
  service  : Nat
  total    : Nat
  drinks   : Nat
  deriving DecidableEq, Repr

/-- The posting queue (R137); `committed` is oldest first, `lastSeq` 0 is none issued, `high` the backlog state HIGH. -/
structure Posting where
  committed : List Charge
  reserved  : Nat
  lastSeq   : Nat
  high      : Bool
  deriving DecidableEq, Repr

/-! ## The field line controller (R149 to R171) -/

inductive LineRate where
  | b19200 | b38400 | b57600 | b115200
  deriving DecidableEq, Repr

inductive LineState where
  | stopped | running | slow | fault
  deriving DecidableEq, Repr

/-- The poll of the exchange in progress on a line (R158, R199): the address, the command it carries or NONE, the
command toggle, the acknowledgement toggle and its valid bit; `stale` where the terminal was disabled since (R156). -/
structure Poll where
  addr     : Nat
  command  : Option Command
  toggle   : Bool
  ack      : Bool
  ackValid : Bool
  stale    : Bool
  deriving DecidableEq, Repr

/-- A line record (R149), the exchange in progress, and where the line stands in its sweep: whether a round poll has been
made since the last sweep ended (`inSweep`), whether an event was taken since the sweep began, and the addresses the slow
sweep has still to poll (R167, R168). -/
structure Line where
  rate          : LineRate
  enabled       : Bool
  slowPermitted : Bool
  state         : LineState
  badCheck      : Nat
  truncated     : Nat
  wrongAddress  : Nat
  noReply       : Nat
  roundPos      : Nat
  priorityRun   : Nat
  exchange      : Option Poll
  inSweep       : Bool
  sweepEvent    : Bool
  slowLeft      : List Nat
  deriving DecidableEq, Repr

/-- A line after store initialisation of group D (R149, R171). -/
def Line.initial : Line :=
  { rate := .b19200, enabled := false, slowPermitted := false, state := .stopped, badCheck := 0, truncated := 0,
    wrongAddress := 0, noReply := 0, roundPos := 1, priorityRun := 0, exchange := none, inSweep := false,
    sweepEvent := false, slowLeft := [] }

inductive TermKind where
  | door | bar | gate
  deriving DecidableEq, Repr

/-- The job assigned to a terminal (R152). -/
inductive Binding where
  | unbound
  | door (number sect : Nat)
  | bar (outlet : Nat)
  | gateFirst (lane : Nat)
  | gateSecond (lane : Nat)
  deriving DecidableEq, Repr

inductive OnlineState where
  | disabled | probing | online | offline | mismatch
  deriving DecidableEq, Repr

/-- Why a terminal leaves ONLINE (R166). -/
inductive LeaveCause where
  | misses | fault | disable | mismatch
  deriving DecidableEq, Repr

/-- A terminal record (R152). -/
structure Terminal where
  binding     : Binding
  enabled     : Bool
  online      : OnlineState
  kindSeen    : Option TermKind
  misses      : Nat
  toggle      : Option Bool
  outstanding : Option Command
  eventToggle : Option Bool
  more        : Bool
  probeDue    : Option Nat
  deriving DecidableEq, Repr

/-- A terminal after store initialisation of group D (R171). -/
def Terminal.initial : Terminal :=
  { binding := .unbound, enabled := false, online := .disabled, kindSeen := none, misses := 0, toggle := none,
    outstanding := none, eventToggle := none, more := false, probeDue := none }

structure FieldUnit where
  lines : Table Line
  terms : Table Terminal
  deriving DecidableEq, Repr

/-! ## The host link and the notices (R172 to R189) -/

inductive RxState where
  | hunting | receiving | waitIdle
  deriving DecidableEq, Repr

/-- The part's flow state (R175). -/
inductive FlowState where
  | flowOpen | pauseDue | paused | resumeDue
  deriving DecidableEq, Repr

/-- A complete request frame that waits in the inbound buffer: its size in bytes, its tag and the request (R174). -/
structure HeldFrame where
  size : Nat
  tag  : Byte
  req  : Request
  deriving DecidableEq, Repr

/-- A reply: its request's kind code, its tag, its status and the body after the status (R177). -/
structure Reply where
  kind   : Nat
  tag    : Byte
  status : Code
  body   : List Field
  deriving DecidableEq, Repr

/-- A queued notice (R183). -/
structure Notice where
  name    : NoticeName
  level   : Nat
  time    : Option ShipTime
  content : List Field
  deriving DecidableEq, Repr

/-- A frame the transmitter has begun; a notice goes with the dropped count put into it (R180, R183). -/
inductive OutFrame where
  | pause
  | resume
  | reply (r : Reply)
  | notice (n : Notice) (dropped : Nat)
  deriving DecidableEq, Repr

/-- The host link: the receiver with the bytes of the frame in progress, the complete frames held, the two directions'
flow, the replies, oldest first, the frame being sent, whether a PART-RESET waits, and the link counters. -/
structure Link where
  rx           : RxState
  rxBytes      : List Byte
  frames       : List HeldFrame
  flow         : FlowState
  hostPause    : Bool
  replies      : List Reply
  sending      : Option OutFrame
  resetWaiting : Bool
  badCheck     : Nat
  overLength   : Nat
  gap          : Nat
  overrun      : Nat
  deriving DecidableEq, Repr

/-- The link after a start (R188). -/
def Link.initial : Link :=
  { rx := .waitIdle, rxBytes := [], frames := [], flow := .flowOpen, hostPause := false, replies := [], sending := none,
    resetWaiting := false, badCheck := 0, overLength := 0, gap := 0, overrun := 0 }

/-- The level of each notice class (R181). -/
structure NoticeLevels where
  access   : Nat
  presence : Nat
  part     : Nat
  passage  : Nat
  terminal : Nat
  card     : Nat
  platform : Nat
  charge   : Nat
  deriving DecidableEq, Repr

def NoticeLevels.initial : NoticeLevels :=
  { access := 3, presence := 3, part := 3, passage := 2, terminal := 2, card := 2, platform := 2, charge := 1 }

/-- The notice queue, oldest first, the dropped count and the levels (R181, R182). -/
structure Notices where
  queue   : List Notice
  dropped : Nat
  levels  : NoticeLevels
  deriving DecidableEq, Repr

inductive StartKind where
  | powerOn | warm
  deriving DecidableEq, Repr

/-- The rate of the host link, selected by the straps at a start (R202). -/
inductive LinkRate where
  | b115200 | b230400 | b460800 | b921600
  deriving DecidableEq, Repr

/-- What the last start left: its kind, the loss flags (they survive starts, R201) and the sampled link rate (R202). -/
structure Startup where
  kind  : StartKind
  loss  : Groups
  rate  : LinkRate
  deriving DecidableEq, Repr

/-- The pins that are inputs (R202): the stop inputs, asserted or not, and the straps. -/
structure Pins where
  stopA  : Bool
  stopB  : Bool
  straps : Straps
  deriving DecidableEq, Repr

/-! ## The audit log (R190 to R197) -/

inductive LogMode where
  | hold | wrap
  deriving DecidableEq, Repr

inductive EntryKind where
  | door | openFailed | hostOpen | hostOpenDone | hostOpenFailed | overrideLapsed | holdStart | holdEnd | privacy
  | forced | ajar | closedAgain | battery | stray | stop
  deriving DecidableEq, Repr

/-- An entry's outcome byte, by the kind of entry (R191, R200). -/
inductive EntryOutcome where
  | code (c : Code)
  | privacy (on : Bool)
  | battery (b : BatteryState)
  | stop (asserted : Bool)
  deriving DecidableEq, Repr

/-- A reason or cause carried as a detail (R200, tag 9). -/
inductive DetailReason where
  | windowEnded | privacyOff | expired | master | host
  deriving DecidableEq, Repr

/-- A detail item of an entry (R190, R200). -/
inductive Detail where
  | doorNumber (n : Nat)
  | lane (n : Nat)
  | heldCount (n : Nat)
  | holdTime (n : Nat)
  | timeOpen (n : Nat)
  | ajarTime (n : Nat)
  | reading (n : Nat)
  | stopInput (i : StopInput)
  | reason (r : DetailReason)
  | outcome (c : Code)
  deriving DecidableEq, Repr

/-- An audit entry (R190). -/
structure LogEntry where
  time    : Option ShipTime
  kind    : EntryKind
  term    : Option TermId
  record  : Option Nat
  outcome : Option EntryOutcome
  details : List Detail
  deriving DecidableEq, Repr

/-- The audit log; `entries` is oldest first, `fired` the fill state FIRED (R190, R195). -/
structure AuditLog where
  entries     : List LogEntry
  mode        : LogMode
  dropped     : Nat
  overwritten : Nat
  fired       : Bool
  deriving DecidableEq, Repr

/-! ## The whole part -/

/-- The part. `pending` is the queue of commands that wait, oldest first; `now` the millisecond time base; `choice`
the model's own counter of the open choices of R161 taken so far (log 7). -/
structure State where
  pending  : List Instr
  powered  : Bool
  now      : Nat
  pins     : Pins
  choice   : Nat
  register : Register
  presence : PresenceUnit
  lanes    : Table Lane
  stops    : Stops
  doors    : DoorUnit
  store    : Tariff
  slots    : Table Slot
  posting  : Posting
  field    : FieldUnit
  link     : Link
  notices  : Notices
  clock    : Option ShipTime
  startup  : Startup
  log      : AuditLog
  deriving DecidableEq, Repr

def State.withPending (s : State) (v : List Instr) : State := { s with pending := v }
def State.withPowered (s : State) (v : Bool) : State := { s with powered := v }
def State.withNow (s : State) (v : Nat) : State := { s with now := v }
def State.withPins (s : State) (v : Pins) : State := { s with pins := v }
def State.withChoice (s : State) (v : Nat) : State := { s with choice := v }
def State.withRegister (s : State) (v : Register) : State := { s with register := v }
def State.withPresence (s : State) (v : PresenceUnit) : State := { s with presence := v }
def State.withLanes (s : State) (v : Table Lane) : State := { s with lanes := v }
def State.withStops (s : State) (v : Stops) : State := { s with stops := v }
def State.withDoors (s : State) (v : DoorUnit) : State := { s with doors := v }
def State.withStore (s : State) (v : Tariff) : State := { s with store := v }
def State.withSlots (s : State) (v : Table Slot) : State := { s with slots := v }
def State.withPosting (s : State) (v : Posting) : State := { s with posting := v }
def State.withField (s : State) (v : FieldUnit) : State := { s with field := v }
def State.withLink (s : State) (v : Link) : State := { s with link := v }
def State.withNotices (s : State) (v : Notices) : State := { s with notices := v }
def State.withClock (s : State) (v : Option ShipTime) : State := { s with clock := v }
def State.withStartup (s : State) (v : Startup) : State := { s with startup := v }
def State.withLog (s : State) (v : AuditLog) : State := { s with log := v }

/-! ## What stops the machine -/

/-- The part has no fault: nothing the spec describes stops it but the loss of its supply, which is a command with an
effect (R201). So no constructor. -/
inductive Fault where
  deriving DecidableEq, Repr

/-- The refusals. -/
inductive Refusal where
  /-- raised by an arm of exec for a command that has no meaning yet; safe, since the machine stops there -/
  | notModelled (mnemonic : String)
  deriving DecidableEq, Repr

/-! ## Reset -/

def Register.initial : Register := { cards := [], index := [], withdrawn := [] }

def PresenceUnit.initial : PresenceUnit :=
  { aboard := 0, ashore := 0, conflicts := 0, trips := [], call := .callOpen, leftBehind := [] }

def Stops.initial : Stops := { stopA := ⟨false, none⟩, stopB := ⟨false, none⟩ }

def Posting.initial : Posting := { committed := [], reserved := 0, lastSeq := 0, high := false }

def AuditLog.initial : AuditLog := { entries := [], mode := .wrap, dropped := 0, overwritten := 0, fired := false }

/-- The START notice of a power-on that found no group intact (R188, R198, R201). -/
def Notice.firstStart : Notice :=
  { name := .start, level := 3, time := none,
    content := [.u1 1, .flag true, .flag true, .flag true, .flag true, .flag true] }

/-- The part right after its first power-on: a store that has never been written fails every check, so each group
stands as after store initialisation and its loss flag is set, and START is queued (R201, R188; log 1, 6, 25). -/
def State.reset : State :=
  { pending := []
    powered := true
    now := 0
    pins := { stopA := false, stopB := false, straps := ⟨false, false⟩ }
    choice := 0
    register := Register.initial
    presence := PresenceUnit.initial
    lanes := []
    stops := Stops.initial
    doors := { records := [], settings := DoorSettings.initial }
    store := { accounts := [], items := [], outlets := [] }
    slots := []
    posting := Posting.initial
    field := { lines := [], terms := [] }
    link := Link.initial
    notices := { queue := [Notice.firstStart], dropped := 0, levels := NoticeLevels.initial }
    clock := none
    startup := { kind := .powerOn, loss := ⟨true, true, true, true, true⟩, rate := .b115200 }
    log := AuditLog.initial }

end Sys2Proof.Machine
end

