-- ==== Sys2Proof/Machine/Codes.lean ====
section
/-! DEFINITION. The code table of R198: the number sent for each state, code and name, and the reading of a number in a
request's field, none where the part assigns the number to nothing (such a value is refused RANGE). -/

namespace Sys2Proof.Machine

/-- The status and outcome codes (R198). -/
def Code.num : Code → Nat
  | .ok => 0x00 | .unknownKind => 0x01 | .format => 0x02 | .range => 0x03 | .notFound => 0x04 | .alreadyExists => 0x05
  | .full => 0x06 | .busy => 0x07 | .wrongState => 0x08 | .pending => 0x09 | .ashore => 0x0A | .conflict => 0x0B
  | .store => 0x0C
  | .withdrawn => 0x10 | .unknown => 0x11 | .suspended => 0x12 | .lost => 0x13 | .notPermitted => 0x14
  | .wrongWay => 0x15 | .laneDown => 0x16 | .stopped => 0x17 | .closed => 0x18 | .noBoat => 0x19 | .item => 0x1A
  | .age => 0x1B | .noAccount => 0x1C | .ceiling => 0x1D | .credit => 0x1E | .allowance => 0x1F
  | .held => 0x20 | .overrideWait => 0x21 | .battery => 0x22 | .privacy => 0x23 | .opened => 0x24
  | .reissued => 0x30 | .passage => 0x31 | .late => 0x32
  | .approved => 0x40 | .cancelled => 0x41 | .expired => 0x42 | .voided => 0x43

def NoticeClass.num : NoticeClass → Nat
  | .access => 1 | .presence => 2 | .part => 3 | .passage => 4 | .terminal => 5 | .card => 6 | .platform => 7
  | .charge => 8

def NoticeClass.ofNum : Nat → Option NoticeClass
  | 1 => some .access | 2 => some .presence | 3 => some .part | 4 => some .passage | 5 => some .terminal
  | 6 => some .card | 7 => some .platform | 8 => some .charge | _ => none

/-- The class a notice belongs to (R198). -/
def NoticeName.cls : NoticeName → NoticeClass
  | .masterOpen | .overrideStart | .overrideDone | .holdStart | .hostOpenDone | .hostOpenFailed | .forced | .ajar
  | .closedAgain => .access
  | .conflictSet | .conflictCleared => .presence
  | .start | .overrun | .logFill => .part
  | .completed | .notTaken | .incomplete | .uncertain | .cancelled | .stray => .passage
  | .offline | .online | .mismatch | .lineFault | .lineRestored | .battery => .terminal
  | .withdrawnSeen | .lostSeen => .card
  | .stopAsserted | .stopReleased => .platform
  | .warningSet | .warningCleared | .backlogHigh | .backlogLow => .charge

/-- A notice's number within its class (R198). -/
def NoticeName.num : NoticeName → Nat
  | .masterOpen => 1 | .overrideStart => 2 | .overrideDone => 3 | .holdStart => 4 | .hostOpenDone => 5
  | .hostOpenFailed => 6 | .forced => 7 | .ajar => 8 | .closedAgain => 9
  | .conflictSet => 1 | .conflictCleared => 2
  | .start => 1 | .overrun => 2 | .logFill => 3
  | .completed => 1 | .notTaken => 2 | .incomplete => 3 | .uncertain => 4 | .cancelled => 5 | .stray => 6
  | .offline => 1 | .online => 2 | .mismatch => 3 | .lineFault => 4 | .lineRestored => 5 | .battery => 6
  | .withdrawnSeen => 1 | .lostSeen => 2
  | .stopAsserted => 1 | .stopReleased => 2
  | .warningSet => 1 | .warningCleared => 2 | .backlogHigh => 3 | .backlogLow => 4

/-- The level of a class (R181). -/
def NoticeLevels.get (l : NoticeLevels) : NoticeClass → Nat
  | .access => l.access | .presence => l.presence | .part => l.part | .passage => l.passage | .terminal => l.terminal
  | .card => l.card | .platform => l.platform | .charge => l.charge

def NoticeLevels.set (l : NoticeLevels) (c : NoticeClass) (n : Nat) : NoticeLevels :=
  match c with
  | .access => { l with access := n }
  | .presence => { l with presence := n }
  | .part => { l with part := n }
  | .passage => { l with passage := n }
  | .terminal => { l with terminal := n }
  | .card => { l with card := n }
  | .platform => { l with platform := n }
  | .charge => { l with charge := n }

/-- Yes or no as sent. -/
def yesNo : Nat → Option Bool
  | 0 => some false | 1 => some true | _ => none

/-! ## Card fields -/

def CardStatus.num : CardStatus → Nat
  | .active => 1 | .suspended => 2 | .lost => 3

/-- The statuses CARD-STATUS may write: VACANT, 0, is not one of them (R17). -/
def CardStatus.ofNum : Nat → Option CardStatus
  | 1 => some .active | 2 => some .suspended | 3 => some .lost | _ => none

def CardKind.num : CardKind → Nat
  | .guest => 1 | .crew => 2 | .master => 3

def CardKind.ofNum : Nat → Option CardKind
  | 1 => some .guest | 2 => some .crew | 3 => some .master | _ => none

def Role.num : Role → Nat
  | .attendant => 1 | .security => 2 | .other => 3

def Role.ofNum : Nat → Option Role
  | 1 => some .attendant | 2 => some .security | 3 => some .other | _ => none

def Package.num : Package → Nat
  | .noPackage => 0 | .soft => 1 | .standard => 2 | .premium => 3

def Package.ofNum : Nat → Option Package
  | 0 => some .noPackage | 1 => some .soft | 2 => some .standard | 3 => some .premium | _ => none

/-! ## Presence fields -/

def Presence.num : Presence → Nat
  | .aboard => 1 | .ashore => 2

def Presence.ofNum : Nat → Option Presence
  | 1 => some .aboard | 2 => some .ashore | _ => none

def ConflictReason.num : ConflictReason → Nat
  | .ashoreUse => 1 | .uncertainPassage => 2 | .missedReturn => 3 | .missedDeparture => 4

/-- A conflict field: 0 is clear. -/
def conflictNum : Option ConflictReason → Nat
  | none => 0
  | some r => r.num

/-- What cleared a conflict (R29). -/
inductive ClearCause where
  | passage | presenceSet | conflictClear
  deriving DecidableEq, Repr

def ClearCause.num : ClearCause → Nat
  | .passage => 1 | .presenceSet => 2 | .conflictClear => 3

def CallState.num : CallState → Nat
  | .callOpen => 1 | .closing => 2 | .sailing => 3

/-- The states CALL-SET may ask for: SAILING is out of range (R41). -/
def CallState.ofCallSet : Nat → Option CallState
  | 1 => some .callOpen | 2 => some .closing | _ => none

def TripState.num : TripState → Nat
  | .loading => 1 | .afloat => 2 | .complete => 3

/-! ## Lane and passage fields -/

def Direction.num : Direction → Nat
  | .out => 1 | .inward => 2

def Direction.ofNum : Nat → Option Direction
  | 1 => some .out | 2 => some .inward | _ => none

def Chain.num : Chain → Nat
  | .single => 1 | .double => 2

def Chain.ofNum : Nat → Option Chain
  | 1 => some .single | 2 => some .double | _ => none

/-- STOP-A 1, STOP-B 2. -/
def stopInputNum : StopInput → Nat
  | .stopA => 1 | .stopB => 2

/-- A stop-linked field: 0 is none. -/
def stopLinkedNum : Option StopInput → Nat
  | none => 0
  | some i => stopInputNum i

def stopLinkedOfNum : Nat → Option (Option StopInput)
  | 0 => some none | 1 => some (some .stopA) | 2 => some (some .stopB) | _ => none

def LaneState.num : LaneState → Nat
  | .down => 1 | .busy => 2 | .idle => 3

def PassageState.num : PassageState → Nat
  | .waitingPace => 1 | .firstSending => 2 | .firstReleased => 3 | .firstRevoking => 4 | .secondSending => 5
  | .secondReleased => 6 | .secondRevoking => 7

def PassageOutcome.num : PassageOutcome → Nat
  | .completed => 1 | .notTaken => 2 | .incomplete => 3 | .uncertain => 4 | .cancelled _ => 5

/-- The reason of CANCELLED, none for the other outcomes (R70). -/
def PassageOutcome.reason : PassageOutcome → Option Code
  | .cancelled r => some r
  | _ => none

/-- The PASSAGE notice of an outcome (R70, R198). -/
def PassageOutcome.notice : PassageOutcome → NoticeName
  | .completed => .completed | .notTaken => .notTaken | .incomplete => .incomplete | .uncertain => .uncertain
  | .cancelled _ => .cancelled

/-! ## Door record fields -/

def Contact.num : Contact → Nat
  | .contactClosed => 0 | .contactOpen => 1 | .unknown => 2

def Alarm.num : Alarm → Nat
  | .noAlarm => 0 | .forced => 1 | .ajar => 2 | .forcedAndAjar => 3

def BatteryState.num : BatteryState → Nat
  | .unknown => 0 | .good => 1 | .low => 2 | .critical => 3

/-! ## Tariff fields -/

/-- Why a warning was evaluated (R100). -/
inductive WarningCause where
  | quote | commit | release | posted | host | start
  deriving DecidableEq, Repr

def WarningCause.num : WarningCause → Nat
  | .quote => 1 | .commit => 2 | .release => 3 | .posted => 4 | .host => 5 | .start => 6

def Category.num : Category → Nat
  | .food => 1 | .soft => 2 | .beerWine => 3 | .spirit => 4 | .premium => 5 | .retail => 6

def Category.ofNum : Nat → Option Category
  | 1 => some .food | 2 => some .soft | 3 => some .beerWine | 4 => some .spirit | 5 => some .premium
  | 6 => some .retail | _ => none

/-- The states ITEM-SET may write: ACTIVE, yes, or WITHDRAWN, no; UNSET, 0, is not one of them (R105). -/
def itemStateOfNum : Nat → Option Bool
  | 1 => some true | 2 => some false | _ => none

/-- An item's state as read: UNSET where it is not listed (R106). -/
def itemStateNum : Option Item → Nat
  | none => 0
  | some i => if i.active then 1 else 2

/-! ## Line and terminal fields -/

def LineRate.num : LineRate → Nat
  | .b19200 => 1 | .b38400 => 2 | .b57600 => 3 | .b115200 => 4

def LineRate.ofNum : Nat → Option LineRate
  | 1 => some .b19200 | 2 => some .b38400 | 3 => some .b57600 | 4 => some .b115200 | _ => none

def LineState.num : LineState → Nat
  | .stopped => 0 | .running => 1 | .slow => 2 | .fault => 3

def OnlineState.num : OnlineState → Nat
  | .disabled => 0 | .probing => 1 | .online => 2 | .offline => 3 | .mismatch => 4

def Binding.num : Binding → Nat
  | .unbound => 0 | .door .. => 1 | .bar .. => 2 | .gateFirst .. => 3 | .gateSecond .. => 4

/-- The kind a binding expects; a binding of none expects no kind (R152). -/
def Binding.expects : Binding → Option TermKind
  | .unbound => none | .door .. => some .door | .bar .. => some .bar | .gateFirst .. => some .gate
  | .gateSecond .. => some .gate

def LeaveCause.num : LeaveCause → Nat
  | .misses => 1 | .fault => 2 | .disable => 3 | .mismatch => 4

def TermKind.num : TermKind → Nat
  | .door => 1 | .bar => 2 | .gate => 3

def TermKind.ofNum : Nat → Option TermKind
  | 1 => some .door | 2 => some .bar | 3 => some .gate | _ => none

/-- The command slot of a poll (R198); no command is 0, NONE. -/
def Command.slot : Command → Nat
  | .openLock => 1 | .show _ => 2 | .release => 3 | .revoke => 4 | .quote .. => 5 | .result _ => 6

def commandSlot : Option Command → Nat
  | none => 0
  | some c => c.slot

/-! ## Host link and log fields -/

def FlowState.num : FlowState → Nat
  | .flowOpen => 0 | .pauseDue => 1 | .paused => 2 | .resumeDue => 3

def StartKind.num : StartKind → Nat
  | .powerOn => 1 | .warm => 2

def LogMode.num : LogMode → Nat
  | .hold => 0 | .wrap => 1

def LogMode.ofNum : Nat → Option LogMode
  | 0 => some .hold | 1 => some .wrap | _ => none

def EntryKind.num : EntryKind → Nat
  | .door => 1 | .openFailed => 2 | .hostOpen => 3 | .hostOpenDone => 4 | .hostOpenFailed => 5 | .overrideLapsed => 6
  | .holdStart => 7 | .holdEnd => 8 | .privacy => 9 | .forced => 10 | .ajar => 11 | .closedAgain => 12
  | .battery => 13 | .stray => 14 | .stop => 15

/-- The outcome byte of an entry (R200). -/
def EntryOutcome.num : EntryOutcome → Nat
  | .code c => c.num
  | .privacy on => if on then 1 else 0
  | .battery b => b.num
  | .stop a => if a then 1 else 0

def DetailReason.num : DetailReason → Nat
  | .windowEnded => 1 | .privacyOff => 2 | .expired => 3 | .master => 4 | .host => 5

/-- A detail's tag and value (R200). -/
def Detail.tagValue : Detail → Nat × Nat
  | .doorNumber n => (1, n) | .lane n => (2, n) | .heldCount n => (3, n) | .holdTime n => (4, n)
  | .timeOpen n => (5, n) | .ajarTime n => (6, n) | .reading n => (7, n) | .stopInput i => (8, stopInputNum i)
  | .reason r => (9, r.num) | .outcome c => (10, c.num)

/-- The kind code of a request frame (R198). -/
def requestKind : Request → Nat
  | .cardIssue _ => 0x10 | .cardReissue _ => 0x11 | .cardStatus _ => 0x12 | .cardSet _ => 0x13
  | .cardVacate _ => 0x14 | .cardRead _ => 0x15 | .cardFind _ => 0x16
  | .presenceSet _ => 0x20 | .conflictClear _ => 0x21 | .countRead _ => 0x22 | .tripOpen _ => 0x23
  | .tripCastoff _ => 0x24 | .tripClear _ => 0x25 | .tripRead _ => 0x26 | .callSet _ => 0x27 | .sail _ => 0x28
  | .arrive _ => 0x29 | .leftRead _ => 0x2A
  | .laneSet _ => 0x30 | .laneRead _ => 0x31
  | .doorConfig _ => 0x38 | .doorRead _ => 0x39 | .doorOpen _ => 0x3A
  | .accountSet _ => 0x40 | .accountClose _ => 0x41 | .accountRead _ => 0x42 | .itemSet _ => 0x43
  | .itemRead _ => 0x44 | .outletSet _ => 0x45 | .outletRead _ => 0x46 | .dayRoll _ => 0x47
  | .chargeRead _ => 0x50 | .chargePosted _ => 0x51
  | .lineSet _ => 0x58 | .lineRead _ => 0x59 | .termBind _ => 0x5A | .termEnable _ => 0x5B | .termDisable _ => 0x5C
  | .termRead _ => 0x5D
  | .logMode _ => 0x60 | .logRead _ => 0x61
  | .noticeLevel _ => 0x68 | .clockSet _ => 0x69 | .partStatus _ => 0x6A | .partClear _ => 0x6B | .partReset _ => 0x6C
  | .unknownKind k _ => k

/-- The length of a request's body in bytes. -/
def requestLength : Request → Nat
  | .cardIssue b => b.length | .cardReissue b => b.length | .cardStatus b => b.length | .cardSet b => b.length
  | .cardVacate b => b.length | .cardRead b => b.length | .cardFind b => b.length
  | .presenceSet b => b.length | .conflictClear b => b.length | .countRead b => b.length | .tripOpen b => b.length
  | .tripCastoff b => b.length | .tripClear b => b.length | .tripRead b => b.length | .callSet b => b.length
  | .sail b => b.length | .arrive b => b.length | .leftRead b => b.length
  | .laneSet b => b.length | .laneRead b => b.length
  | .doorConfig b => b.length | .doorRead b => b.length | .doorOpen b => b.length
  | .accountSet b => b.length | .accountClose b => b.length | .accountRead b => b.length | .itemSet b => b.length
  | .itemRead b => b.length | .outletSet b => b.length | .outletRead b => b.length | .dayRoll b => b.length
  | .chargeRead b => b.length | .chargePosted b => b.length
  | .lineSet b => b.length | .lineRead b => b.length | .termBind b => b.length | .termEnable b => b.length
  | .termDisable b => b.length | .termRead b => b.length
  | .logMode b => b.length | .logRead b => b.length
  | .noticeLevel b => b.length | .clockSet b => b.length | .partStatus b => b.length | .partClear b => b.length
  | .partReset b => b.length
  | .unknownKind _ n => n

end Sys2Proof.Machine
end

