-- ==== Sys2Proof/Machine/Limits.lean ====
section
/-! DEFINITION. The fixed numbers of the part, each with the rule that states it. -/

namespace Sys2Proof.Machine.Limits

/-- R1: card records 0 to 1,023. -/
def cards : Nat := 1024
/-- R7: the withdrawn list. -/
def withdrawn : Nat := 256
/-- R33: trips in use. -/
def trips : Nat := 24
/-- R33: the seat pool. -/
def seats : Nat := 1536
/-- R97: accounts 1 to 512. -/
def accounts : Nat := 512
/-- R105: items 0 to 1,023. -/
def items : Nat := 1024
/-- R107: outlets 1 to 16. -/
def outlets : Nat := 16
/-- R50: lanes 1 to 8. -/
def lanes : Nat := 8
/-- R149: field lines 1 to 8. -/
def lines : Nat := 8
/-- R152: addresses 1 to 31. -/
def addresses : Nat := 31
/-- R137: places in the posting queue. -/
def postingPlaces : Nat := 256
/-- R137: the greatest sequence number. -/
def lastSequence : Nat := 4294967295
/-- R139: the greatest distance back that is behind the queue. -/
def behind : Nat := 2147483647
/-- R146: committed records that make the backlog HIGH. -/
def backlogHigh : Nat := 192
/-- R146: committed records left that make it NORMAL again. -/
def backlogLow : Nat := 64
/-- R142: records in one CHARGE-READ reply. -/
def chargesPerReply : Nat := 8
/-- R172: the longest body. -/
def bodyBytes : Nat := 1020
/-- R174: the inbound buffer. -/
def bufferBytes : Nat := 2048
/-- R175: the fill that makes PAUSE due. -/
def pauseFill : Nat := 1536
/-- R175: the fill that makes RESUME due. -/
def resumeFill : Nat := 512
/-- R178: the reply queue. -/
def replies : Nat := 8
/-- R182: the notice queue. -/
def notices : Nat := 64
/-- R190: the audit log. -/
def logEntries : Nat := 2048
/-- R195: entries held that raise LOG-FILL. -/
def logFill : Nat := 1792
/-- R195: entries left below which LOG-FILL is armed again. -/
def logArm : Nat := 1024
/-- R194: entries in one LOG-READ reply. -/
def entriesPerReply : Nat := 16
/-- The value at which a 16-bit counter stays (R149, R173, R182, R190). -/
def counterTop : Nat := 65535
/-- R85: the quiet period in ms. -/
def quietMs : Nat := 60000
/-- R91: an opening within this of the last OPEN is not FORCED, in ms. -/
def openGraceMs : Nat := 10000
/-- R163, R164: the time to a probe, in ms. -/
def probeMs : Nat := 2000
/-- R163: misses in a row that make a terminal OFFLINE. -/
def misses : Nat := 3
/-- R167: priority polls in a row. -/
def priorityRun : Nat := 4
/-- R66: the time between two samples of a stop input, in ms. -/
def sampleMs : Nat := 10

end Sys2Proof.Machine.Limits
end

