-- ==== Sys2Proof/Machine/Ops.lean ====
section
/-! DEFINITION. The shared operations on the state: reading and writing the numbered records, raising a notice
(R181 to R183), writing an audit entry (R190 to R195), the answer to a request (R12, R26, R179). -/

namespace Sys2Proof.Machine

/-! ## Running a command -/

/-- A command takes effect only while the part has its supply; it never faults or refuses (R201; log 18). -/
def live (f : State → State) (s : State) : Host.Outcome State Fault Refusal :=
  .next (if s.powered then f s else s)

/-- What a block answers to a request: the part afterwards, the status and the reply body after it (R177). -/
structure Answer where
  state  : State
  status : Code
  body   : List Field
  deriving DecidableEq, Repr

/-- A refusal: nothing changes (R12, R26, R179). -/
def refuse (s : State) (c : Code) : Answer := { state := s, status := c, body := [] }

/-- The FORMAT check, the first of every request. -/
def orFormat {α : Type} (b : Body α) (s : State) (f : α → Answer) : Answer :=
  match b.fields with
  | none => refuse s .format
  | some x => f x

/-- A counter that stays at 65,535 (R149, R173, R182, R190). -/
def bump (n : Nat) : Nat := if n < Limits.counterTop then n + 1 else n

/-- The time base has reached t: the expiry at t is taken now. That no 10 ms stop sample of the span passed over is taken
(R66) is the model's choice (logs 4 and 5). -/
def reach (t : Nat) (s : State) : State := s.withNow (max s.now t)

/-! ## Records by number -/

def State.card? (s : State) (n : Nat) : Option Card := s.register.cards.find n

def State.setCard (s : State) (n : Nat) (c : Card) : State :=
  s.withRegister { s.register with cards := s.register.cards.insert n c }

def State.modifyCard (s : State) (n : Nat) (f : Card → Card) : State :=
  s.withRegister { s.register with cards := s.register.cards.modify n f }

def State.account? (s : State) (n : Nat) : Option Account := s.store.accounts.find n

def State.setAccount (s : State) (n : Nat) (a : Account) : State :=
  s.withStore { s.store with accounts := s.store.accounts.insert n a }

def State.item? (s : State) (n : Nat) : Option Item := s.store.items.find n

def State.outlet (s : State) (n : Nat) : Outlet := Table.look Outlet.initial s.store.outlets n

def State.trip? (s : State) (n : Nat) : Option Trip := s.presence.trips.find n

def State.setTrip (s : State) (n : Nat) (t : Trip) : State :=
  s.withPresence { s.presence with trips := s.presence.trips.insert n t }

/-- Lane numbers 1 to 8. -/
def validLane (n : Nat) : Bool := 1 ≤ n && n ≤ Limits.lanes

def State.lane (s : State) (n : Nat) : Lane := Table.look Lane.initial s.lanes n

def State.setLane (s : State) (n : Nat) (l : Lane) : State :=
  if validLane n then s.withLanes (Table.put Lane.initial s.lanes n l) else s

/-- Line numbers 1 to 8. -/
def validLine (n : Nat) : Bool := 1 ≤ n && n ≤ Limits.lines

def State.line (s : State) (n : Nat) : Line := Table.look Line.initial s.field.lines n

def State.setLine (s : State) (n : Nat) (l : Line) : State :=
  if validLine n then s.withField { s.field with lines := Table.put Line.initial s.field.lines n l } else s

/-- A terminal's pair is in range (R152). -/
def validTerm (t : TermId) : Bool :=
  validLine t.line && (1 ≤ t.addr && t.addr ≤ Limits.addresses)

/-- The number a terminal's records are kept under. -/
def termKey (t : TermId) : Nat := 32 * t.line + t.addr

/-- The terminal of a key. -/
def termOfKey (k : Nat) : TermId := { line := k / 32, addr := k % 32 }

def State.term (s : State) (t : TermId) : Terminal :=
  if validTerm t then Table.look Terminal.initial s.field.terms (termKey t) else Terminal.initial

def State.setTerm (s : State) (t : TermId) (r : Terminal) : State :=
  if validTerm t then s.withField { s.field with terms := Table.put Terminal.initial s.field.terms (termKey t) r } else s

def State.online (s : State) (t : TermId) : Bool := (s.term t).online == .online

/-- The terminal has no command outstanding. -/
def State.free (s : State) (t : TermId) : Bool := (s.term t).outstanding.isNone

/-- A gate that is there and ONLINE (R51). -/
def State.gateOnline (s : State) : Option TermId → Bool
  | none => false
  | some t => s.online t

def State.door? (s : State) (t : TermId) : Option Door :=
  if validTerm t then s.doors.records.find (termKey t) else none

def State.setDoor (s : State) (t : TermId) (d : Door) : State :=
  if validTerm t then s.withDoors { s.doors with records := s.doors.records.insert (termKey t) d } else s

def State.slot? (s : State) (t : TermId) : Option Slot :=
  if validTerm t then s.slots.find (termKey t) else none

def State.setSlot (s : State) (t : TermId) (x : Slot) : State :=
  if validTerm t then s.withSlots (s.slots.insert (termKey t) x) else s

def State.modifySlot (s : State) (t : TermId) (f : Slot → Slot) : State :=
  match s.slot? t with
  | some x => s.setSlot t (f x)
  | none => s

/-! ## Notices (R181 to R183) -/

/-- The lowest level present in a queue of notices (R182). -/
def lowestLevel : List Notice → Nat
  | [] => 0
  | [n] => n.level
  | n :: m :: ns => min n.level (lowestLevel (m :: ns))

/-- The highest level present (R180). -/
def highestLevel : List Notice → Nat
  | [] => 0
  | n :: ns => max n.level (highestLevel ns)

/-- A notice of level 1 to 3 arrives at the queue (R182). -/
def Notices.arrive (u : Notices) (n : Notice) : Notices :=
  if u.queue.length < Limits.notices then { u with queue := u.queue ++ [n] }
  else if lowestLevel u.queue ≤ n.level then
    { u with queue := u.queue.eraseP (fun m => m.level == lowestLevel u.queue) ++ [n], dropped := bump u.dropped }
  else { u with dropped := bump u.dropped }

/-- A block raises a notice: it takes the level its class has now; at level 0 it is neither queued nor counted (R181). -/
def raise (name : NoticeName) (content : List Field) (s : State) : State :=
  if s.notices.levels.get name.cls = 0 then s
  else
    s.withNotices (s.notices.arrive { name, level := s.notices.levels.get name.cls, time := s.clock, content })

/-! ## The audit log (R190 to R195) -/

/-- Whether an entry handed to the log joins it: only a full log in HOLD mode drops it (R192). -/
def AuditLog.takes (l : AuditLog) : Bool := l.entries.length < Limits.logEntries || l.mode == .wrap

/-- The log after an entry is handed to it (R192). -/
def AuditLog.hand (l : AuditLog) (e : LogEntry) : AuditLog :=
  if l.entries.length < Limits.logEntries then { l with entries := l.entries ++ [e] }
  else
    match l.mode with
    | .hold => { l with dropped := bump l.dropped }
    | .wrap => { l with entries := l.entries.drop 1 ++ [e], overwritten := bump l.overwritten }

/-- Hands an entry to the log at the ship time of now, and raises LOG-FILL where R195 calls for it. -/
def writeEntry (kind : EntryKind) (term : Option TermId) (record : Option Nat) (outcome : Option EntryOutcome)
    (details : List Detail) (s : State) : State :=
  let l := s.log.hand { time := s.clock, kind, term, record, outcome, details }
  if s.log.takes && !s.log.fired && Limits.logFill ≤ l.entries.length then
    raise .logFill [.u2 l.entries.length, .u1 l.mode.num, .u2 l.dropped, .u2 l.overwritten]
      (s.withLog { l with fired := true })
  else s.withLog l

/-! ## Lookup of a card (R9, R10) -/

/-- What the card register answers for a serial (R9). -/
inductive Lookup where
  | withdrawn
  | unknown
  | suspended (n : Nat)
  | lost (n : Nat)
  | active (n : Nat) (c : Card)
  deriving DecidableEq, Repr

/-- The record a serial stands for in the index (R6). -/
def State.indexed (s : State) (serial : Serial) : Option Nat :=
  (s.register.index.find? (fun p => p.1 == serial)).map (·.2)

/-- The outcome of a lookup, tested in the order of R9. -/
def lookup (serial : Serial) (s : State) : Lookup :=
  match s.indexed serial with
  | none => if s.register.withdrawn.contains serial then .withdrawn else .unknown
  | some n =>
    match s.card? n with
    | none => .unknown
    | some c =>
      match c.status with
      | .suspended => .suspended n
      | .lost => .lost n
      | .active => .active n c

/-- The refusal outcome of a lookup that found no ACTIVE record. -/
def Lookup.refusal : Lookup → Option Code
  | .withdrawn => some .withdrawn
  | .unknown => some .unknown
  | .suspended _ => some .suspended
  | .lost _ => some .lost
  | .active .. => none

/-- The record a lookup found, in whatever status. -/
def Lookup.record : Lookup → Option Nat
  | .withdrawn | .unknown => none
  | .suspended n | .lost n => some n
  | .active n _ => some n

/-- The notices of a lookup: WITHDRAWN-SEEN and LOST-SEEN (R10). -/
def lookupNotice (lk : Lookup) (serial : Serial) (t : TermId) (s : State) : State :=
  match lk with
  | .withdrawn => raise .withdrawnSeen [.serial serial, .term (some t)] s
  | .lost n => raise .lostSeen [.num (some n), .serial serial, .term (some t)] s
  | _ => s

end Sys2Proof.Machine
end

