-- ==== Sys2Proof/Machine/Flags.lean ====
section
/-! DEFINITION. The two flags that follow other state: the conflict of a card, with the conflict count (R28, R29), and
the warning of an account (R99, R100). -/

namespace Sys2Proof.Machine

/-! ## The conflict flag -/

/-- Where a conflict came from: a terminal, a lane, or the start-up (R28). -/
inductive ConflictSource where
  | terminal (t : TermId)
  | lane (n : Nat)
  | startUp
  deriving DecidableEq, Repr

/-- The source as two fields, a terminal and a lane, the one not used absent (R198). -/
def ConflictSource.fields : ConflictSource → List Field
  | .terminal t => [.term (some t), .code none]
  | .lane n => [.term none, .code (some n)]
  | .startUp => [.term none, .code none]

/-- A counted record is of kind GUEST or CREW (R4). -/
def Card.counted (c : Card) : Bool := c.kind != .master

/-- Moves the conflict count. -/
def State.withConflicts (s : State) (n : Nat) : State :=
  s.withPresence { s.presence with conflicts := n }

/-- Sets the conflict of a counted record, with its notice; the count rises where the flag was clear (R28). -/
def setConflict (n : Nat) (r : ConflictReason) (src : ConflictSource) (s : State) : State :=
  match s.card? n with
  | none => s
  | some c =>
    if c.counted then
      raise .conflictSet ([.num (some n), .u1 r.num] ++ src.fields)
        ((s.withConflicts (if c.conflict.isSome then s.presence.conflicts else s.presence.conflicts + 1)).setCard n
          { c with conflict := some r })
    else s

/-- Clears the conflict of a record, with its notice; a clear flag stays clear without one (R29). -/
def clearConflict (n : Nat) (cause : ClearCause) (s : State) : State :=
  match s.card? n with
  | none => s
  | some c =>
    if c.conflict.isSome then
      raise .conflictCleared [.num (some n), .u1 cause.num]
        ((s.withConflicts (s.presence.conflicts - 1)).setCard n { c with conflict := none })
    else s

/-! ## The warning of an account -/

/-- Balance plus pending plus held (R97). -/
def Account.exposure (a : Account) : Int := a.balance + a.pending + a.held

/-- The warning after an evaluation, with its band between 80 % and 90 % of the limit (R99). -/
def Account.evaluated (a : Account) : Bool :=
  if 0 < a.limit then
    if (a.limit : Int) * 9 ≤ a.exposure * 10 then true
    else if a.exposure * 5 < (a.limit : Int) * 4 then false
    else a.warning
  else decide (0 < a.exposure)

/-- Writes an account with its warning evaluated, and raises WARNING-SET or WARNING-CLEARED on a change (R98 to R100). -/
def writeAccount (n : Nat) (a : Account) (cause : WarningCause) (s : State) : State :=
  let s' := s.setAccount n { a with warning := a.evaluated }
  if a.evaluated = a.warning then s'
  else
    raise (if a.evaluated then .warningSet else .warningCleared)
      [.num (some n), .money a.exposure, .money a.limit, .u1 cause.num] s'

end Sys2Proof.Machine
end

