-- ==== Sys2Proof/Machine/Accounts.lean ====
section
/-! DEFINITION. The tariff and account store: its eight requests (R101 to R108, R110) and the package coverage (R109). -/

namespace Sys2Proof.Machine

/-! ## Accounts -/

/-- The non-VACANT card records that name an account (R103, R104). -/
def cardsNaming (s : State) (n : Nat) : Nat := (s.register.cards.filter (fun p => p.2.account == n)).length

/-- Account numbers 1 to 512. -/
def validAccount (n : Nat) : Bool := 1 ≤ n && n ≤ Limits.accounts

/-- An account as ACCOUNT-READ gives it (R104): state CLOSED and no other field, or the OPEN account whole. -/
def accountFields (n : Nat) (s : State) : List Field :=
  match s.account? n with
  | none => [.u1 0]
  | some a =>
    [.u1 1, .money a.balance, .money a.limit, .money a.allowance, .money a.pending, .money a.held, .u2 a.discount,
      .money a.exposure, .flag a.warning, .u2 (cardsNaming s n)]

/-- A present field is in its range. -/
def inRange (v : Option Int) (lo hi : Int) : Bool :=
  match v with
  | none => true
  | some x => lo ≤ x && x ≤ hi

/-- A present field is at most hi. -/
def atMost (v : Option Nat) (hi : Nat) : Bool :=
  match v with
  | none => true
  | some x => x ≤ hi

/-- The range check of ACCOUNT-SET (R101, check 2). -/
def AccountSetReq.inRange (q : AccountSetReq) : Bool :=
  validAccount q.account && Machine.inRange q.balance (-10000000) 100000000 && Machine.inRange q.limit 0 100000000
    && Machine.inRange q.allowance 0 5000000 && atMost q.discount 5000

/-- ACCOUNT-SET (R101, R102). The allowance is clamped to at least pending plus held. -/
def serveAccountSet (b : Body AccountSetReq) (s : State) : Answer :=
  orFormat b s fun q =>
    if AccountSetReq.inRange q = false then refuse s .range
    else
      match s.account? q.account with
      | none =>
        match q.balance, q.limit, q.allowance, q.discount with
        | some balance, some limit, some allowance, some discount =>
          let s' := writeAccount q.account
            { balance, limit := limit.toNat, allowance := allowance.toNat, pending := 0, held := 0, discount
              warning := false } .host s
          { state := s', status := .ok, body := accountFields q.account s' }
        | _, _, _, _ => refuse s .format
      | some a =>
        let s' := writeAccount q.account
          { a with
            balance := q.balance.getD a.balance
            limit := (q.limit.map Int.toNat).getD a.limit
            allowance :=
              match q.allowance with
              | none => a.allowance
              | some v => max v.toNat (a.pending + a.held)
            discount := q.discount.getD a.discount } .host s
        { state := s', status := .ok, body := accountFields q.account s' }

/-- ACCOUNT-CLOSE (R103). R138 has the account of a queued record OPEN while it stands; that an account whose queued records
all have total 0, so with pending 0, is closed as the table of R103 lets it be is the model's choice (log 50). -/
def serveAccountClose (b : Body Nat) (s : State) : Answer :=
  orFormat b s fun n =>
    if validAccount n = false then refuse s .range
    else
      match s.account? n with
      | none => refuse s .notFound
      | some a =>
        if 0 < a.pending ∨ 0 < a.held then refuse s .pending
        else if 0 < cardsNaming s n then refuse s .busy
        else
          { state := s.withStore { s.store with accounts := s.store.accounts.erase n }, status := .ok
            body := [.money a.balance] }

/-- ACCOUNT-READ (R104). -/
def serveAccountRead (b : Body Nat) (s : State) : Answer :=
  orFormat b s fun n =>
    if validAccount n = false then refuse s .range
    else { state := s, status := .ok, body := accountFields n s }

/-! ## Items -/

/-- An item's four fields (R105). -/
def Item.fields (i : Item) : List Field :=
  [.money i.price, .u1 i.category.num, .flag i.adultOnly, .u1 (itemStateNum (some i))]

/-- An item as read: its state, and for a written item its four fields (R106). That a written item's state is sent twice,
before the four fields and as the last of them, is the model's choice (log 11). -/
def itemFields (n : Nat) (s : State) : List Field :=
  match s.item? n with
  | none => [.u1 (itemStateNum none)]
  | some i => .u1 (itemStateNum (some i)) :: i.fields

/-- ITEM-SET (R105). -/
def serveItemSet (b : Body ItemSetReq) (s : State) : Answer :=
  orFormat b s fun q =>
    if Limits.items ≤ q.item ∨ q.price < 0 ∨ 99999 < q.price then refuse s .range
    else
      match Category.ofNum q.category, yesNo q.adultOnly, itemStateOfNum q.state with
      | some category, some adultOnly, some active =>
        let i : Item := { price := q.price.toNat, category, adultOnly, active }
        { state := s.withStore { s.store with items := s.store.items.insert q.item i }, status := .ok, body := i.fields }
      | _, _, _ => refuse s .range

/-- ITEM-READ (R106). -/
def serveItemRead (b : Body Nat) (s : State) : Answer :=
  orFormat b s fun n =>
    if Limits.items ≤ n then refuse s .range
    else { state := s, status := .ok, body := itemFields n s }

/-! ## Outlets -/

/-- Outlet numbers 1 to 16. -/
def validOutlet (n : Nat) : Bool := 1 ≤ n && n ≤ Limits.outlets

/-- A value stored at its nearest in a range (00_scope, Settings that clamp). -/
def clamp (lo hi v : Nat) : Nat := max lo (min hi v)

/-- An outlet's four fields as stored (R107). -/
def Outlet.fields (o : Outlet) : List Field := [.u2 o.rate, .money o.ceiling, .flag o.honoured, .u2 o.timeout]

/-- OUTLET-SET (R107). -/
def serveOutletSet (b : Body OutletSetReq) (s : State) : Answer :=
  orFormat b s fun q =>
    if validOutlet q.outlet = false ∨ 2500 < q.rate ∨ q.ceiling < 100 ∨ 10000000 < q.ceiling then refuse s .range
    else
      match yesNo q.honoured with
      | none => refuse s .range
      | some honoured =>
        let o : Outlet :=
          { rate := q.rate, ceiling := q.ceiling.toNat, honoured, timeout := clamp 10 300 q.timeout }
        { state := s.withStore { s.store with outlets := Table.put Outlet.initial s.store.outlets q.outlet o }
          status := .ok, body := o.fields }

/-- The bar terminals bound BAR to an outlet (R108). -/
def barsAt (n : Nat) (s : State) : Nat := (s.field.terms.filter (fun p => p.2.binding == .bar n)).length

/-- OUTLET-READ (R108). -/
def serveOutletRead (b : Body Nat) (s : State) : Answer :=
  orFormat b s fun n =>
    if validOutlet n = false then refuse s .range
    else { state := s, status := .ok, body := (s.outlet n).fields ++ [.u1 (barsAt n s)] }

/-! ## Package coverage (R109) -/

/-- A package covers a category. -/
def Package.covers : Package → Category → Bool
  | .noPackage, _ => false
  | _, .food => false
  | _, .retail => false
  | _, .soft => true
  | .soft, _ => false
  | .standard, .beerWine => true
  | .standard, .spirit => true
  | .standard, .premium => false
  | .premium, _ => true

/-- A covered unit of the category counts as a drink. -/
def Category.counts : Category → Bool
  | .beerWine | .spirit | .premium => true
  | .food | .soft | .retail => false

/-! ## The day roll (R110) -/

/-- A record after the roll. -/
def Card.rolled (c : Card) : Card := if c.kind = .guest then { c with drinksUsed := 0 } else c

/-- DAY-ROLL (R110). -/
def serveDayRoll (b : Body Unit) (s : State) : Answer :=
  orFormat b s fun _ =>
    { state := s.withRegister { s.register with cards := s.register.cards.mapVals Card.rolled }, status := .ok
      body := [.u2 (s.register.cards.filter (fun p => p.2.kind == .guest && 0 < p.2.drinksUsed)).length] }

end Sys2Proof.Machine
end

