-- ==== Sys2Proof/Machine/FieldLine.lean ====
section
/-! DEFINITION. The field line controller's arbiter (R167, R168) and the placing of commands (R159). Nothing here knows
what a block does with its terminals. -/

namespace Sys2Proof.Machine

/-! ## The terminals of a line -/

/-- The addresses of a line in the order of a search that begins at pos, counting on from 31 to 1 (R167). -/
def addressesFrom (pos : Nat) : List Nat :=
  (List.range Limits.addresses).map (fun k => (pos + 30 + k) % 31 + 1)

/-- Addresses 1 to 31. -/
def allAddresses : List Nat := (List.range Limits.addresses).map (· + 1)

/-- An ONLINE terminal that has a command outstanding or whose last good reply carried more-pending (R167). -/
def Terminal.priority (r : Terminal) : Bool := r.online == .online && (r.outstanding.isSome || r.more)

/-- A terminal polled in the round: PROBING or ONLINE (R153, R167). -/
def Terminal.inRound (r : Terminal) : Bool := r.online == .probing || r.online == .online

/-- A terminal polled by probe: OFFLINE or MISMATCH (R153). -/
def Terminal.probed (r : Terminal) : Bool := r.online == .offline || r.online == .mismatch

/-- When the probe of a probed terminal fell due, if it has by now (R164, R165). -/
def Terminal.fellDue (r : Terminal) (now : Nat) : Option Nat :=
  if r.probed then r.probeDue.filter (fun d => decide (d ≤ now)) else none

/-- The terminal of a line at an address. -/
def State.termAt (s : State) (l a : Nat) : Terminal := s.term { line := l, addr := a }

/-- The address whose probe fell due earliest, the lower address first (R167, case 2): of a list in rising order, the
first with the least due time. -/
def earliestProbe (s : State) (l : Nat) : Option Nat :=
  (allAddresses.foldl (fun best a =>
    match (s.termAt l a).fellDue s.now, best with
    | none, b => b
    | some d, none => some (a, d)
    | some d, some (b, e) => if d < e then some (a, d) else some (b, e)) (none : Option (Nat × Nat))).map (·.1)

/-- The round has passed the highest PROBING or ONLINE address of a line and wraps: no such address is left at or after
the round position (R167). Position 1 within a sweep is the place after address 31. A round that every terminal has left
counts as passed (log 23). -/
def roundPassed (s : State) (l : Nat) : Bool :=
  (s.line l).roundPos == 1 || allAddresses.all (fun a => decide (a < (s.line l).roundPos) || !(s.termAt l a).inRound)

/-- The sweep in progress on a line has ended (R167). -/
def sweepOver (s : State) (l : Nat) : Bool := (s.line l).inSweep && roundPassed s l

/-- The poll made to a terminal (R159, R160, R164): the command outstanding while ONLINE, with the toggle held; the
toggle last taken as acknowledgement, not valid while it is unknown. -/
def Terminal.poll (r : Terminal) (addr : Nat) : Poll :=
  { addr
    command := if r.online == .online && r.toggle.isSome then r.outstanding else none
    toggle := r.toggle.getD false
    ack := r.eventToggle.getD false
    ackValid := r.eventToggle.isSome
    stale := false }

/-- Begins the exchange with an address of a line, after the line record has moved as f says. -/
def beginPoll (l a : Nat) (f : Line → Line) (s : State) : State :=
  s.setLine l { f (s.line l) with exchange := some ((s.termAt l a).poll a) }

/-- Makes a probe: the next one falls due 2 s after it is sent (R164, R165). -/
def beginProbe (l a : Nat) (f : Line → Line) (s : State) : State :=
  s |> beginPoll l a f
    |>.setTerm { line := l, addr := a } { s.termAt l a with probeDue := some (s.now + Limits.probeMs) }

/-! ## Slow polling (R168) -/

/-- A lane has a passage and the terminal is one of its gates, or the terminal is a bar terminal holding a quote. -/
def terminalBusyForSlow (s : State) (l a : Nat) : Bool :=
  match (s.termAt l a).binding with
  | .gateFirst n => (s.lane n).passage.isSome
  | .gateSecond n => (s.lane n).passage.isSome
  | .bar _ =>
    match s.slot? { line := l, addr := a } with
    | some x => x.quote.isSome
    | none => false
  | _ => false

/-- The conditions under which a line in RUNNING with slow permitted enters SLOW at the end of a sweep (R168). -/
def slowConditions (l : Nat) (s : State) : Bool :=
  (s.line l).slowPermitted && !(s.line l).sweepEvent &&
    allAddresses.all (fun a =>
      (s.termAt l a).outstanding.isNone && !(s.termAt l a).more && (s.termAt l a).online != .probing &&
        !terminalBusyForSlow s l a)

/-! ## The arbiter (R167) -/

/-- A line takes another state: no sweep of the last one is left, neither of the round nor a slow one (R149, R167, R168; log
23). -/
def Line.enter (x : Line) (v : LineState) : Line :=
  { x with state := v, inSweep := false, sweepEvent := false, slowLeft := [] }

/-- The choice of the next poll of a line in RUNNING, the sweep's end aside: the first case of R167 that applies. -/
def choosePoll (l : Nat) (s : State) : State :=
  let line := s.line l
  match (if line.priorityRun < Limits.priorityRun then
      (addressesFrom line.roundPos).find? (fun a => (s.termAt l a).priority) else none) with
  | some a => beginPoll l a (fun x => { x with priorityRun := x.priorityRun + 1 }) s
  | none =>
    match earliestProbe s l with
    | some a => beginProbe l a (fun x => { x with priorityRun := 0 }) s
    | none =>
      match (addressesFrom line.roundPos).find? (fun a => (s.termAt l a).inRound) with
      | some a =>
        beginPoll l a (fun x => { x with priorityRun := 0, roundPos := a % 31 + 1, inSweep := true }) s
      | none => s

/-- The next poll of a line in SLOW: the rest of the slow sweep, then a probe that is due, made as R167 states it (the
priority run becomes 0), else none (R164, R168). The rule speaks of probes between slow sweeps; that one which falls due
within a slow sweep waits for the sweep's last poll (log 23), and that a slow sweep's own polls leave the priority run as it
stands (log 44), is the model's choice. -/
def slowNext (l : Nat) (s : State) : State :=
  match (s.line l).slowLeft.dropWhile (fun a => (s.termAt l a).online != .online) with
  | a :: rest => beginPoll l a (fun x => { x with slowLeft := rest }) s
  | [] =>
    match earliestProbe s l with
    | some a => beginProbe l a (fun x => { x with slowLeft := [], priorityRun := 0 }) s
    | none => s.setLine l { s.line l with slowLeft := [] }

/-- The arbiter of a line in RUNNING with no exchange in progress: at the end of a sweep the line may enter SLOW, and
otherwise the next poll is chosen (R167, R168; log 23). -/
def arbitrate (l : Nat) (s : State) : State :=
  if sweepOver s l then
    if slowConditions l s then
      slowNext l (s.setLine l ((s.line l).enter .slow))
    else choosePoll l (s.setLine l { s.line l with inSweep := false, sweepEvent := false })
  else choosePoll l s

/-- A line that has no exchange in progress chooses its next poll, by its state. -/
def kick (l : Nat) (s : State) : State :=
  if (s.line l).exchange.isSome then s
  else
    match (s.line l).state with
    | .running => arbitrate l s
    | .slow => slowNext l s
    | .stopped | .fault => s

/-- A condition of SLOW fails, or there is something to poll for: the line is in RUNNING and an idle one chooses at
once (R167, R168). -/
def wake (l : Nat) (s : State) : State :=
  kick l
    (if (s.line l).state = .slow then s.setLine l ((s.line l).enter .running) else s)

/-- The exchange of a line ends, and the next poll is chosen (R162, R167). -/
def endExchange (l : Nat) (s : State) : State :=
  kick l (s.setLine l { s.line l with exchange := none })

/-! ## Placing a command (R159) -/

/-- The placing is accepted: the terminal is ONLINE and has no command outstanding. -/
def State.accepts (s : State) (t : TermId) : Bool := s.online t && s.free t

/-- A block places a command: the toggle flips and the command is outstanding; a refused placing places nothing (R159;
log 32). -/
def place (t : TermId) (c : Command) (s : State) : State :=
  if s.accepts t then
    wake t.line
      (s.setTerm t { s.term t with toggle := some (!(s.term t).toggle.getD false), outstanding := some c })
  else s

/-- The outstanding command of a terminal is acknowledged: it becomes none, the toggle stays (R159). -/
def clearOutstanding (t : TermId) (s : State) : State :=
  s.setTerm t { s.term t with outstanding := none }

end Sys2Proof.Machine
end

