-- ==== Sys2Proof/Machine/Doors.lean ====
section
/-! DEFINITION. The door controller: the access rule, delivery, streak and hold (R77 to R87), contact, privacy and
battery (R89 to R93), a unit's loss (R94), and the three door requests (R74, R75, R88). -/

namespace Sys2Proof.Machine

/-! ## The access rule (R77 to R82) -/

/-- A minute of the day lies inside a shift window (R3). -/
def inWindow (w : Window) (minute : Nat) : Bool :=
  if w.start < w.stop then w.start ≤ minute && minute < w.stop
  else if w.stop < w.start then w.start ≤ minute || minute < w.stop
  else true

/-- The step of the access rule that decided, with what its delivery needs to know (R77). -/
inductive Why where
  | master
  | hold
  | lookup
  | ownList
  | attendant
  | security
  | overrideStart
  | overrideWait
  | overrideDone (first : Nat)
  | otherwise
  deriving DecidableEq, Repr

/-- A decision: the outcome and the step that gave it. -/
structure Decision where
  outcome : Code
  why     : Why
  deriving DecidableEq, Repr

/-- An ATTENDANT of the door's section (R81). -/
def attendantRule (clock : Option ShipTime) (window : Option Window) (d : Door) : Code :=
  match clock, window with
  | some t, some w =>
    if inWindow w (t.sec / 60) then
      if d.battery = .critical then .battery
      else if d.privacy then .privacy
      else .opened
    else .notPermitted
  | _, _ => .notPermitted

/-- A SECURITY card at a door not on its list (R82). -/
def securityRule (n : Nat) (d : Door) : Decision :=
  if d.privacy then
    match d.window with
    | none => { outcome := .overrideWait, why := .overrideStart }
    | some w =>
      if w.first = n then { outcome := .overrideWait, why := .overrideWait }
      else { outcome := .opened, why := .overrideDone w.first }
  else { outcome := .opened, why := .security }

/-- Steps 4 to 7, for an ACTIVE GUEST or CREW card (R77, R80 to R82). -/
def cardRule (clock : Option ShipTime) (n : Nat) (c : Card) (d : Door) : Decision :=
  if c.doors.contains d.number then { outcome := .opened, why := .ownList }
  else if c.kind = .crew ∧ c.role = some .attendant ∧ c.sect = some d.sect then
    { outcome := attendantRule clock c.window d, why := .attendant }
  else if c.kind = .crew ∧ c.role = some .security then securityRule n d
  else { outcome := .notPermitted, why := .otherwise }

/-- The access rule: the first step that applies gives the outcome (R77). -/
def decideAccess (clock : Option ShipTime) (lk : Lookup) (d : Door) : Decision :=
  match lk with
  | .active n c =>
    if c.kind = .master then { outcome := .opened, why := .master }
    else if d.hold.isSome then { outcome := .held, why := .hold }
    else cardRule clock n c d
  | .withdrawn => if d.hold.isSome then { outcome := .held, why := .hold } else { outcome := .withdrawn, why := .lookup }
  | .unknown => if d.hold.isSome then { outcome := .held, why := .hold } else { outcome := .unknown, why := .lookup }
  | .suspended _ => if d.hold.isSome then { outcome := .held, why := .hold } else { outcome := .suspended, why := .lookup }
  | .lost _ => if d.hold.isSome then { outcome := .held, why := .hold } else { outcome := .lost, why := .lookup }

/-! ## Effects of a decision (R78 to R86) -/

/-- Changes a door record. -/
def modifyDoor (t : TermId) (f : Door → Door) (s : State) : State :=
  match s.door? t with
  | some d => s.setDoor t (f d)
  | none => s

/-- Ends a hold in force, with its HOLD-END entry (R86). That the cause stands before the held count in the entry's details,
as R191 lists them, is the model's choice (log 46). -/
def endHold (t : TermId) (cause : DetailReason) (s : State) : State :=
  match s.door? t with
  | none => s
  | some d =>
    match d.hold with
    | none => s
    | some h =>
      writeEntry .holdEnd (some t) none none [.reason cause, .heldCount h.held] (s.setDoor t { d with hold := none })

/-- The ASHORE-USE mark a presentation asks for: the card decides at steps 4 to 7 and is ASHORE (R80). -/
def markAshoreUse (t : TermId) (lk : Lookup) (w : Why) (s : State) : State :=
  match lk with
  | .active n c =>
    if w ≠ .master ∧ w ≠ .hold ∧ c.counted ∧ c.presence = .ashore then setConflict n .ashoreUse (.terminal t) s else s
  | _ => s

/-- The refusals that raise the streak (R85). -/
def Code.counts : Code → Bool
  | .unknown | .withdrawn | .suspended | .lost | .battery | .privacy | .notPermitted => true
  | _ => false

/-- The effects of an opening that is delivered: the streak is 0, and what R78 and R82 add. The time of the last counted
refusal stays, here and wherever the streak is set to 0: the model's choice (log 39). -/
def openingEffects (t : TermId) (d : Door) (w : Why) (record : Option Nat) (s : State) : State :=
  match w with
  | .master =>
    raise .masterOpen [.num (some d.number), .term (some t), .num record]
      (modifyDoor t (fun x => { x with window := none, streak := 0 }) (endHold t .master s))
  | .overrideDone first =>
    raise .overrideDone [.num (some d.number), .term (some t), .num (some first), .num record]
      (modifyDoor t (fun x => { x with window := none, streak := 0 }) s)
  | _ => modifyDoor t (fun x => { x with streak := 0 }) s

/-- The door in an override WINDOW (R82). -/
def Door.withWindow (d : Door) (first expiry : Nat) : Door := { d with window := some { first, expiry } }

/-- The effects of a refusal, OVERRIDE-WAIT or HELD, shown or not: the held count (R79), the override window (R82), the
streak (R85). -/
def refusalEffects (t : TermId) (d : Door) (dec : Decision) (record : Option Nat) (s : State) : State :=
  match dec.why with
  | .hold => modifyDoor t (fun x => { x with hold := x.hold.map (fun h => { h with held := bump h.held }) }) s
  | .overrideStart =>
    raise .overrideStart
      [.num (some d.number), .term (some t), .num record, .u1 s.doors.settings.overrideWindow]
      (modifyDoor t (fun x => x.withWindow (record.getD 0) (s.now + 1000 * s.doors.settings.overrideWindow)) s)
  | _ =>
    if dec.outcome.counts then modifyDoor t (fun x => { x with streak := x.streak + 1, streakTime := some s.now }) s
    else s

/-- The streak has reached the threshold: the door enters HOLD with a notice and an entry, the streak at 0 and its time as
it is (R85, R86; log 39). The entry has the one detail that R191 lists, the hold time, where R86 says 'the same content'
as the notice: the model's choice (log 41). -/
def enterHold (t : TermId) (d : Door) (record : Option Nat) (s : State) : State :=
  let time := s.doors.settings.holdTime
  writeEntry .holdStart (some t) record none [.holdTime time]
    (raise .holdStart [.num (some d.number), .term (some t), .u2 time, .num record]
      (modifyDoor t (fun x => { x with streak := 0, hold := some { expiry := s.now + 1000 * time, held := 0 } }) s))

/-- A counted refusal that brings the streak to the threshold or above (R85). -/
def holdCheck (t : TermId) (dec : Decision) (record : Option Nat) (s : State) : State :=
  match s.door? t with
  | none => s
  | some d =>
    if dec.outcome.counts ∧ s.doors.settings.streakThreshold ≤ d.streak then enterHold t d record s else s

/-- The details of a decision's entry (R95, R191): d is the door record before the decision. At a busy unit the outcome the
rule gave comes first, with the held count of a HELD one, and without the door number of an own-list opening: the model's
choices (log 16). That the second SECURITY card's opening, which ends the window, carries no WINDOW-ENDED is the model's
choice too (log 48). -/
def doorDetails (d : Door) (dec : Decision) (delivered : Bool) : List Detail :=
  (if delivered then [] else [.outcome dec.outcome]) ++
    (match dec.why with
      | .hold => [.heldCount (bump ((d.hold.map (·.held)).getD 0))]
      | .master => if delivered && d.window.isSome then [.reason .windowEnded] else []
      | .ownList => if delivered then [.doorNumber d.number] else []
      | _ => [])

/-- Delivers an outcome: OPEN or SHOW placed where the unit is free, nothing where it is not (R84). -/
def deliverOutcome (t : TermId) (dec : Decision) (record : Option Nat) (s : State) : State :=
  if s.free t then
    if dec.outcome = .opened then
      place t .openLock (modifyDoor t (fun x => { x with openCard := record, hostOpen := false }) s)
    else place t (.show dec.outcome) s
  else s

/-- The effects of a decision: an opening's only where it is delivered, a refusal's in either case (R84). -/
def decisionEffects (t : TermId) (d : Door) (dec : Decision) (record : Option Nat) (delivered : Bool) (s : State) :
    State :=
  if dec.outcome = .opened then if delivered then openingEffects t d dec.why record s else s
  else refusalEffects t d dec record s

/-- A decision is carried out: mark, delivery, effects, entry, and HOLD where the streak calls for it (R77, R84, R95;
log 15). -/
def carryOut (t : TermId) (d : Door) (lk : Lookup) (dec : Decision) (s : State) : State :=
  let delivered := s.free t
  let s1 := markAshoreUse t lk dec.why s
  let s2 := deliverOutcome t dec lk.record s1
  let s3 := decisionEffects t d dec lk.record delivered s2
  let s4 := writeEntry .door (some t) lk.record (some (.code (if delivered then dec.outcome else .busy)))
    (doorDetails d dec delivered) s3
  holdCheck t dec lk.record s4

/-- A PRESENT taken from a door unit (R77). -/
def doorPresent (t : TermId) (serial : Serial) (s : State) : State :=
  match s.door? t with
  | none => s
  | some d =>
    carryOut t d (lookup serial s) (decideAccess s.clock (lookup serial s) d)
      (lookupNotice (lookup serial s) serial t s)

/-! ## Expiries (R83, R85, R86, R92) -/

/-- The override window expires (R83). -/
def windowExpiry (t : TermId) (s : State) : State :=
  match s.door? t with
  | none => s
  | some d =>
    match d.window with
    | none => s
    | some w =>
      writeEntry .overrideLapsed (some t) (some w.first) none []
        ((reach w.expiry s).setDoor t { d with window := none })

/-- The hold expires (R86). -/
def holdExpiry (t : TermId) (s : State) : State :=
  match (s.door? t).bind (·.hold) with
  | none => s
  | some h => endHold t .expired (reach h.expiry s)

/-- The alarm gains AJAR (R92). -/
def Alarm.withAjar : Alarm → Alarm
  | .noAlarm => .ajar
  | .forced => .forcedAndAjar
  | .ajar => .ajar
  | .forcedAndAjar => .forcedAndAjar

/-- Ajar timing expires (R92). -/
def ajarExpiry (t : TermId) (s : State) : State :=
  match s.door? t with
  | none => s
  | some d =>
    match d.ajar with
    | none => s
    | some j =>
      writeEntry .ajar (some t) none none [.ajarTime j.time]
        (raise .ajar [.num (some d.number), .term (some t), .u2 j.time]
          ((reach j.due s).setDoor t { d with ajar := none, alarm := d.alarm.withAjar }))

/-- The quiet period of 60 s ends with no further counted refusal (R85). The time of that refusal stays in the record, where
DOOR-READ shows it: the model's choice (log 39). -/
def quietExpiry (t : TermId) (s : State) : State :=
  match s.door? t with
  | none => s
  | some d =>
    match d.streakTime with
    | none => s
    | some at_ =>
      if d.streak = 0 then s else (reach (at_ + Limits.quietMs) s).setDoor t { d with streak := 0 }

/-! ## Privacy and contact (R89 to R92) -/

/-- A PRIVACY report (R89, R83). That the PRIVACY entry joins the log before OVERRIDE-LAPSED is the model's choice (log
15). -/
def doorPrivacy (t : TermId) (on : Bool) (s : State) : State :=
  match s.door? t with
  | none => s
  | some d =>
    if d.privacy = on then s
    else
      let s1 := writeEntry .privacy (some t) none (some (.privacy on)) [] (s.setDoor t { d with privacy := on })
      match on, d.window with
      | false, some w =>
        writeEntry .overrideLapsed (some t) (some w.first) none [.reason .privacyOff]
          (modifyDoor t (fun x => { x with window := none }) s1)
      | _, _ => s1

/-- The unit has an OPEN outstanding. -/
def openOutstanding (s : State) (t : TermId) : Bool := (s.term t).outstanding == some .openLock

/-- An opening from CLOSED is FORCED: no OPEN acknowledged within the last 10 s, and none outstanding (R91). -/
def forcedOpening (d : Door) (outstanding : Bool) (now : Nat) : Bool :=
  !outstanding &&
    (match d.lastOpen with
      | none => true
      | some at_ => Limits.openGraceMs < now - at_)

/-- The contact goes OPEN: ajar timing starts with the ajar time stored now (R90, R92). -/
def Door.opened (d : Door) (now ajarTime : Nat) : Door :=
  { d with
    contact := .contactOpen, openSince := some now, alarm := .noAlarm
    ajar := some { due := now + 1000 * ajarTime, time := ajarTime } }

/-- The whole seconds the door stood open (R92). -/
def Door.secondsOpen (d : Door) (now : Nat) : Nat := (now - d.openSince.getD now) / 1000

/-- A CONTACT report (R90 to R92). -/
def doorContact (t : TermId) (isOpen : Bool) (s : State) : State :=
  match s.door? t with
  | none => s
  | some d =>
    match d.contact, isOpen with
    | .unknown, true => s.setDoor t (d.opened s.now s.doors.settings.ajarTime)
    | .unknown, false => s.setDoor t { d with contact := .contactClosed }
    | .contactClosed, true =>
      let d' := d.opened s.now s.doors.settings.ajarTime
      if forcedOpening d (openOutstanding s t) s.now then
        writeEntry .forced (some t) none none []
          (raise .forced [.num (some d.number), .term (some t)] (s.setDoor t { d' with alarm := .forced }))
      else s.setDoor t d'
    | .contactOpen, false =>
      let s1 := s.setDoor t { d with contact := .contactClosed, ajar := none, alarm := .noAlarm }
      if d.alarm = .noAlarm then s1
      else
        writeEntry .closedAgain (some t) none none [.timeOpen (d.secondsOpen s.now)]
          (raise .closedAgain [.num (some d.number), .term (some t), .ms (some (d.secondsOpen s.now))] s1)
    | .contactOpen, true => s
    | .contactClosed, false => s

/-! ## The battery (R93) -/

/-- The target state a reading gives from the state held (R93). -/
def batteryTarget (c : DoorSettings) (held : BatteryState) (r : Nat) : Option BatteryState :=
  match held with
  | .unknown => some (if r < c.critTrip then .critical else if r < c.lowTrip then .low else .good)
  | .good => if r < c.critTrip then some .critical else if r < c.lowTrip then some .low else none
  | .low => if r < c.critTrip then some .critical else if c.lowTrip + c.hysteresis ≤ r then some .good else none
  | .critical => if c.critTrip + c.hysteresis ≤ r then some .low else none

/-- The filter run after a reading with a target (R93). -/
def FilterRun.after (run : Option FilterRun) (target : BatteryState) : FilterRun :=
  match run with
  | some x => if x.target = target then { x with count := x.count + 1 } else { target, count := 1 }
  | none => { target, count := 1 }

/-- A battery reading of a door unit's good reply (R93). -/
def batteryReading (t : TermId) (r : Nat) (s : State) : State :=
  match s.door? t with
  | none => s
  | some d =>
    match batteryTarget s.doors.settings d.battery r with
    | none => s.setDoor t { d with run := none }
    | some target =>
      let run := FilterRun.after d.run target
      if s.doors.settings.filterCount ≤ run.count then
        writeEntry .battery (some t) none (some (.battery target)) [.reading r]
          (raise .battery [.num (some d.number), .term (some t), .u1 target.num, .u1 r]
            (s.setDoor t { d with battery := target, run := none }))
      else s.setDoor t { d with run := some run }

/-! ## The fate of an OPEN, and the loss of a unit (R87, R94) -/

/-- An OPEN at a door unit is acknowledged (R87; log 13). -/
def openAcked (t : TermId) (s : State) : State :=
  match s.door? t with
  | none => s
  | some d =>
    let s1 := s.setDoor t { d with lastOpen := some s.now, hostOpen := false, openCard := none }
    if d.hostOpen then
      writeEntry .hostOpenDone (some t) none none [.doorNumber d.number]
        (raise .hostOpenDone [.num (some d.number), .term (some t)] s1)
    else s1

/-- An OPEN at a door unit is abandoned (R87; log 13). -/
def openAbandoned (t : TermId) (s : State) : State :=
  match s.door? t with
  | none => s
  | some d =>
    let s1 := s.setDoor t { d with hostOpen := false, openCard := none }
    if d.hostOpen then
      writeEntry .hostOpenFailed (some t) none none [.doorNumber d.number]
        (raise .hostOpenFailed [.num (some d.number), .term (some t)] s1)
    else writeEntry .openFailed (some t) d.openCard none [] s1

/-- A door unit has left ONLINE with the given command abandoned (R94). -/
def doorLost (t : TermId) (abandoned : Option Command) (s : State) : State :=
  modifyDoor t (fun d => { d with contact := .unknown, ajar := none, alarm := .noAlarm, run := none })
    (if abandoned = some .openLock then openAbandoned t s else s)

/-! ## Door requests -/

/-- The eight settings as stored (R74, R75). -/
def DoorSettings.fields (c : DoorSettings) : List Field :=
  [.u1 c.overrideWindow, .u1 c.streakThreshold, .u2 c.holdTime, .u2 c.ajarTime, .u1 c.lowTrip, .u1 c.critTrip,
    .u1 c.hysteresis, .u1 c.filterCount]

/-- DOOR-CONFIG's clamps: LOW-TRIP first, then CRIT-TRIP to at most the stored LOW-TRIP less one (R74). -/
def DoorConfigReq.clamped (q : DoorConfigReq) : DoorSettings :=
  let lowTrip := clamp 1 255 q.lowTrip
  { overrideWindow := clamp 10 120 q.overrideWindow
    streakThreshold := clamp 3 15 q.streakThreshold
    holdTime := clamp 30 900 q.holdTime
    ajarTime := clamp 10 600 q.ajarTime
    lowTrip
    critTrip := clamp 0 (lowTrip - 1) q.critTrip
    hysteresis := clamp 0 32 q.hysteresis
    filterCount := clamp 1 8 q.filterCount }

/-- One of the four battery settings differs (R74). -/
def batterySettingsDiffer (a b : DoorSettings) : Bool :=
  a.lowTrip != b.lowTrip || a.critTrip != b.critTrip || a.hysteresis != b.hysteresis || a.filterCount != b.filterCount

/-- DOOR-CONFIG (R74). -/
def serveDoorConfig (b : Body DoorConfigReq) (s : State) : Answer :=
  orFormat b s fun q =>
    let c := DoorConfigReq.clamped q
    let records :=
      if batterySettingsDiffer s.doors.settings c then s.doors.records.mapVals (fun d => { d with run := none })
      else s.doors.records
    { state := s.withDoors { records, settings := c }, status := .ok, body := c.fields }

/-- The terminal and the door record with a door number. -/
def State.doorNumbered (s : State) (n : Nat) : Option (TermId × Door) :=
  (s.doors.records.find? (fun p => p.2.number == n)).map (fun p => (termOfKey p.1, p.2))

/-- A door record as read: times past as ms before now, expiries as ms remaining (R75). R198 has no code for the hold and
none for an empty filter run: a yes/no byte, then the expiry, none without a hold, and the held count, 0 without one; FFh
with count 0 for an empty run; and an override IDLE carries first card and expiry marked absent. These are the model's choice
(log 40). -/
def Door.fields (d : Door) (now : Nat) : List Field :=
  [.num (some d.number), .u1 d.sect, .u1 (if d.privacy then 1 else 0), .u1 d.contact.num,
    .ms (d.openSince.map (now - ·)), .u1 d.alarm.num, .u1 (if d.window.isSome then 1 else 0),
    .num (d.window.map (·.first)), .ms (d.window.map (·.expiry - now)), .u1 d.streak, .ms (d.streakTime.map (now - ·)),
    .flag d.hold.isSome, .ms (d.hold.map (·.expiry - now)), .u2 ((d.hold.map (·.held)).getD 0), .u1 d.battery.num,
    .code (d.run.map (·.target.num)), .u1 ((d.run.map (·.count)).getD 0), .ms (d.lastOpen.map (now - ·)),
    .u1 (if d.hostOpen then 1 else 0)]

/-- DOOR-READ (R75). -/
def serveDoorRead (b : Body Nat) (s : State) : Answer :=
  orFormat b s fun n =>
    if 9999 < n then refuse s .range
    else if n = 0 then { state := s, status := .ok, body := s.doors.settings.fields }
    else
      match s.doorNumbered n with
      | none => refuse s .notFound
      | some (t, d) =>
        { state := s, status := .ok
          body := [.term (some t), .u1 (s.term t).online.num] ++ d.fields s.now ++
            [.u1 (commandSlot (s.term t).outstanding)] }

/-- DOOR-OPEN (R88). -/
def serveDoorOpen (b : Body Nat) (s : State) : Answer :=
  orFormat b s fun n =>
    if n < 1 ∨ 9999 < n then refuse s .range
    else
      match s.doorNumbered n with
      | none => refuse s .notFound
      | some (t, d) =>
        if s.online t = false then refuse s .wrongState
        else if s.free t = false then refuse s .busy
        else
          let s1 := place t .openLock (modifyDoor t (fun x => { x with hostOpen := true, openCard := none }) s)
          let s2 := endHold t .host s1
          let s3 := modifyDoor t (fun x => { x with window := none, streak := 0 }) s2
          { state := writeEntry .hostOpen (some t) none none
              (.doorNumber n :: (if d.window.isSome then [.reason .windowEnded] else [])) s3
            status := .ok, body := [] }

end Sys2Proof.Machine
end

