-- ==== Sys2Proof/Machine/Presence.lean ====
section
/-! DEFINITION. The presence unit: tallies, manifests, completed passages (R24 to R39) and the eleven presence requests
(R26, R27, R35 to R46). -/

namespace Sys2Proof.Machine

/-! ## Tallies, trips and manifests -/

/-- The seats of the trips in use. -/
def seatsTaken (ts : Table Trip) : Nat := (ts.map (fun p => p.2.capacity)).foldl (· + ·) 0

/-- The free seats of the pool: 1,536 less the capacities of the trips in use (R33). -/
def State.freeSeats (s : State) : Nat := Limits.seats - seatsTaken s.presence.trips

/-- The unreturned entries of a manifest. -/
def unreturned (m : List ManifestEntry) : Nat := (m.filter (fun e => !e.returned)).length

/-- The counts after a record goes from ABOARD to ASHORE (R25). -/
def PresenceUnit.goAshore (p : PresenceUnit) : PresenceUnit :=
  { p with aboard := p.aboard - 1, ashore := p.ashore + 1 }

/-- The counts after a record goes from ASHORE to ABOARD (R25). -/
def PresenceUnit.comeAboard (p : PresenceUnit) : PresenceUnit :=
  { p with aboard := p.aboard + 1, ashore := p.ashore - 1 }

/-- A trip whose entries have changed: AFLOAT without an unreturned entry it becomes COMPLETE (R39). -/
def Trip.settled (t : Trip) : Trip :=
  if t.state = .afloat ∧ unreturned t.manifest = 0 then { t with state := .complete } else t

/-- The manifest with the unreturned entry of a record marked returned; there is at most one (R24, R39). -/
def markEntries (record : Nat) (byCorrection : Bool) : List ManifestEntry → List ManifestEntry
  | [] => []
  | e :: es =>
    if e.record = record ∧ e.returned = false then { e with returned := true, byCorrection := byCorrection } :: es
    else e :: markEntries record byCorrection es

/-- Marks the unreturned entry of a record in a trip returned (R39); trip 0 is no trip. -/
def markReturned (trip record : Nat) (byCorrection : Bool) (s : State) : State :=
  if trip = 0 then s
  else
    match s.trip? trip with
    | none => s
    | some t => s.setTrip trip { t with manifest := markEntries record byCorrection t.manifest }.settled

/-- Appends an entry for a record to a trip's manifest, at the ship time of now (R30, R31); trip 0 is no trip. -/
def appendEntry (trip record : Nat) (s : State) : State :=
  if trip = 0 then s
  else
    match s.trip? trip with
    | none => s
    | some t =>
      s.setTrip trip
        { t with manifest := t.manifest ++ [{ record, time := s.clock, returned := false, byCorrection := false }] }

/-- A COMPLETED passage of a record over a lane, applied to the record's presence (R30, R31). -/
def applyCompleted (record lane : Nat) (dir : Direction) (trip : Nat) (s : State) : State :=
  match s.card? record with
  | none => s
  | some c =>
    match dir, c.presence with
    | .out, .aboard =>
      (((s.withPresence s.presence.goAshore).setCard record { c with presence := .ashore, trip := trip })
        |> appendEntry trip record) |> clearConflict record .passage
    | .inward, .ashore =>
      (((s.withPresence s.presence.comeAboard).setCard record { c with presence := .aboard, trip := 0 })
        |> markReturned c.trip record false) |> clearConflict record .passage
    | .out, .ashore =>
      (((s |> markReturned c.trip record true).setCard record { c with trip := trip })
        |> appendEntry trip record) |> setConflict record .missedReturn (.lane lane)
    | .inward, .aboard => setConflict record .missedDeparture (.lane lane) s

/-- The seat check: manifest length, returned entries included, plus the OUT passages in flight for the trip, is less
than the capacity (R37). -/
def seatCheck (trip : Nat) (s : State) : Bool :=
  match s.trip? trip with
  | none => true
  | some t =>
    let flying := (List.range Limits.lanes).filter (fun k =>
      match (s.lane (k + 1)).passage with
      | some p => p.direction == .out && p.trip == trip
      | none => false)
    t.manifest.length + flying.length < t.capacity

/-- Some lane has a passage in flight (R42). -/
def anyPassage (s : State) : Bool :=
  (List.range Limits.lanes).any (fun k => (s.lane (k + 1)).passage.isSome)

/-! ## Presence requests -/

/-- The checks of a request that names a card record with a presence, after FORMAT (R26). -/
def withCounted (record : Nat) (s : State) (f : Card → Answer) : Answer :=
  if Limits.cards ≤ record then refuse s .range
  else
    match s.card? record with
    | none => refuse s .notFound
    | some c => if c.counted then f c else refuse s .wrongState

/-- The checks of a request that names a trip, after FORMAT (R26). -/
def withTrip (trip : Nat) (s : State) (f : Trip → Answer) : Answer :=
  if trip < 1 ∨ 255 < trip then refuse s .range
  else
    match s.trip? trip with
    | none => refuse s .notFound
    | some t => f t

/-- PRESENCE-SET's effect on the record, the tallies, the manifest and the left-behind list, the conflict aside (R46). -/
def movePresence (record : Nat) (c : Card) (p : Presence) (s : State) : State :=
  match c.presence, p with
  | .ashore, .aboard =>
    ((s.withPresence { s.presence.comeAboard with leftBehind := s.presence.leftBehind.filter (· != record) }).setCard
      record { c with presence := .aboard, trip := 0 }) |> markReturned c.trip record true
  | .aboard, .ashore => (s.withPresence s.presence.goAshore).setCard record { c with presence := .ashore }
  | .ashore, .ashore => s
  | .aboard, .aboard => s

/-- PRESENCE-SET (R45, R46). -/
def servePresenceSet (b : Body PresenceSetReq) (s : State) : Answer :=
  orFormat b s fun q =>
    if Limits.cards ≤ q.record then refuse s .range
    else
      match Presence.ofNum q.presence with
      | none => refuse s .range
      | some p =>
        withCounted q.record s fun c =>
          if c.passage.isSome then refuse s .busy
          else if p = .ashore ∧ s.presence.call = .sailing then refuse s .wrongState
          else
            let s' := clearConflict q.record .presenceSet (movePresence q.record c p s)
            { state := s', status := .ok
              body := [.u1 p.num, .trip (match s'.card? q.record with | some c' => c'.trip | none => 0)] }

/-- CONFLICT-CLEAR (R29). -/
def serveConflictClear (b : Body Nat) (s : State) : Answer :=
  orFormat b s fun record =>
    withCounted record s fun _ =>
      { state := clearConflict record .conflictClear s, status := .ok, body := [] }

/-- COUNT-READ (R27). -/
def serveCountRead (b : Body Unit) (s : State) : Answer :=
  orFormat b s fun _ =>
    { state := s, status := .ok
      body := [.u2 s.presence.aboard, .u2 s.presence.ashore, .u2 (s.presence.aboard + s.presence.ashore),
        .u2 s.presence.conflicts, .u1 s.presence.call.num, .u1 s.presence.trips.length, .u2 s.freeSeats,
        .u2 s.presence.leftBehind.length] }

/-- TRIP-OPEN (R35). -/
def serveTripOpen (b : Body TripOpenReq) (s : State) : Answer :=
  orFormat b s fun q =>
    if q.trip < 1 ∨ 255 < q.trip ∨ q.boat < 1 ∨ 16 < q.boat ∨ q.capacity < 1 ∨ 150 < q.capacity
        ∨ validLane q.lane = false then refuse s .range
    else if s.presence.call ≠ .callOpen then refuse s .wrongState
    else if (s.trip? q.trip).isSome then refuse s .alreadyExists
    else if Limits.trips ≤ s.presence.trips.length ∨ s.freeSeats < q.capacity then refuse s .full
    else if (s.lane q.lane).trip ≠ 0 then refuse s .busy
    else if (s.lane q.lane).passage.isSome then refuse s .busy
    else
      let s' :=
        (s.setTrip q.trip
          { boat := q.boat, capacity := q.capacity, lane := q.lane, state := .loading, manifest := [] }).setLane q.lane
          { s.lane q.lane with trip := q.trip }
      { state := s', status := .ok, body := [.u2 s'.freeSeats] }

/-- TRIP-CASTOFF (R36). -/
def serveTripCastoff (b : Body Nat) (s : State) : Answer :=
  orFormat b s fun trip =>
    withTrip trip s fun t =>
      if t.state ≠ .loading then refuse s .wrongState
      else if (s.lane t.lane).passage.isSome then refuse s .busy
      else
        let st : TripState := if unreturned t.manifest = 0 then .complete else .afloat
        { state := (s.setTrip trip { t with lane := 0, state := st }).setLane t.lane { s.lane t.lane with trip := 0 }
          status := .ok
          body := [.u1 st.num, .u1 (unreturned t.manifest)] }

/-- TRIP-CLEAR (R38). -/
def serveTripClear (b : Body Nat) (s : State) : Answer :=
  orFormat b s fun trip =>
    withTrip trip s fun t =>
      if t.state ≠ .complete then refuse s .wrongState
      else
        let s' := s.withPresence { s.presence with trips := s.presence.trips.erase trip }
        { state := s', status := .ok, body := [.u2 s'.freeSeats] }

/-- A manifest entry as read (R33, R40). -/
def ManifestEntry.fields (e : ManifestEntry) : List Field :=
  [.num (some e.record), .time e.time, .flag e.returned, .flag e.byCorrection]

/-- TRIP-READ (R40). That the lane field of a trip after cast-off is sent as the 0 it holds is the model's choice (log 49). -/
def serveTripRead (b : Body TripReadReq) (s : State) : Answer :=
  orFormat b s fun q =>
    withTrip q.trip s fun t =>
      if t.manifest.length < q.start then refuse s .range
      else
        let es := (t.manifest.drop q.start).take 32
        { state := s, status := .ok
          body := [.trip q.trip, .u1 t.boat, .u1 t.capacity, .u1 t.lane, .u1 t.state.num, .u1 t.manifest.length,
              .u1 (unreturned t.manifest), .u1 es.length] ++ es.flatMap ManifestEntry.fields }

/-- CALL-SET (R41). -/
def serveCallSet (b : Body Nat) (s : State) : Answer :=
  orFormat b s fun v =>
    match CallState.ofCallSet v with
    | none => refuse s .range
    | some c =>
      if s.presence.call = .sailing then refuse s .wrongState
      else { state := s.withPresence { s.presence with call := c }, status := .ok, body := [.u1 c.num] }

/-- The counted records that are ASHORE, in ascending record order (R43). -/
def ashoreRecords (cards : Table Card) : List Nat :=
  (cards.filter (fun p => p.2.counted && p.2.presence == .ashore)).map (·.1)

/-- SAIL (R42, R43). -/
def serveSail (b : Body Nat) (s : State) : Answer :=
  orFormat b s fun v =>
    match yesNo v with
    | none => refuse s .range
    | some forced =>
      if s.presence.call = .sailing then refuse s .wrongState
      else if anyPassage s then refuse s .busy
      else if s.presence.trips.any (fun p => p.2.state == .loading) then refuse s .wrongState
      else if forced = false ∧ 0 < s.presence.ashore then
        { state := s, status := .ashore, body := [.u2 s.presence.ashore] }
      else if forced = false ∧ 0 < s.presence.conflicts then
        { state := s, status := .conflict, body := [.u2 s.presence.conflicts] }
      else
        let left := ashoreRecords s.register.cards
        { state := s.withPresence { s.presence with call := .sailing, leftBehind := left }, status := .ok
          body := [.u2 left.length] }

/-- ARRIVE (R44). -/
def serveArrive (b : Body Unit) (s : State) : Answer :=
  orFormat b s fun _ =>
    if s.presence.call = .sailing then
      { state := s.withPresence { s.presence with call := .callOpen, leftBehind := [] }, status := .ok, body := [] }
    else refuse s .wrongState

/-- LEFT-READ (R44). -/
def serveLeftRead (b : Body Nat) (s : State) : Answer :=
  orFormat b s fun start =>
    if s.presence.leftBehind.length < start then refuse s .range
    else
      let rs := (s.presence.leftBehind.drop start).take 255
      { state := s, status := .ok
        body := [.u2 s.presence.leftBehind.length, .u1 rs.length] ++ rs.map (fun n => .num (some n)) }

end Sys2Proof.Machine
end

