-- ==== Sys2Proof/Machine/Posting.lean ====
section
/-! DEFINITION. The posting queue: numbering and placing (R139), the append of a charge (R141), CHARGE-READ (R142, R143),
CHARGE-POSTED (R144, R145) and the backlog notices (R146). -/

namespace Sys2Proof.Machine

/-- The sequence that follows the last one issued (R139). -/
def nextSequence (last : Nat) : Nat := if last = 0 ∨ last = Limits.lastSequence then 1 else last + 1

/-- The steps from S forward to the last sequence issued, 4,294,967,295 being followed by 1 (R139). -/
def distanceBack (s last : Nat) : Nat := if last < s then last + Limits.lastSequence - s else last - s

/-- Where a sequence stands to the queue (R139). -/
inductive SequencePlace where
  | inQueue (back : Nat)
  | behind
  | ahead
  deriving DecidableEq, Repr

/-- The place of a sequence S other than 0 (R139). -/
def Posting.placeOf (p : Posting) (s : Nat) : SequencePlace :=
  if p.lastSeq = 0 then .ahead
  else if distanceBack s p.lastSeq < p.committed.length then .inQueue (distanceBack s p.lastSeq)
  else if distanceBack s p.lastSeq ≤ Limits.behind then .behind
  else .ahead

/-- The sequence of the oldest committed record, or none. -/
def Posting.oldest (p : Posting) : Option Nat := p.committed.head?.map (·.sequence)

/-- The last sequence issued, or none when it is 0. -/
def Posting.last (p : Posting) : Option Nat := if p.lastSeq = 0 then none else some p.lastSeq

/-- What a backlog notice carries (R146). -/
def Posting.backlogFields (p : Posting) : List Field :=
  [.u2 p.committed.length, .u2 p.reserved, .seq p.oldest, .seq p.last]

/-- A charge joins at the newest end, its reserved slot is given up, and BACKLOG-HIGH is raised where R146 calls for
it (R141). -/
def appendCharge (c : Charge) (s : State) : State :=
  let p : Posting :=
    { s.posting with
      committed := s.posting.committed ++ [c], reserved := s.posting.reserved - 1, lastSeq := c.sequence }
  if p.high = false ∧ Limits.backlogHigh ≤ p.committed.length then
    raise .backlogHigh p.backlogFields (s.withPosting { p with high := true })
  else s.withPosting p

/-! ## CHARGE-READ -/

/-- A line of a charge as read (R200). -/
def QuoteLine.fields (l : QuoteLine) : List Field :=
  [.num (some l.item), .u1 l.qty, .u1 l.covered, .money l.net]

/-- A charge record as read (R143, R200). -/
def Charge.fields (c : Charge) : List Field :=
  [.seq (some c.sequence), .num (some c.account), .num (some c.card), .code (some c.outlet), .term (some c.terminal),
      .time c.time, .money c.subtotal, .money c.service, .money c.total, .u1 c.drinks, .u1 c.lines.length]
    ++ c.lines.flatMap QuoteLine.fields

/-- The size of a charge record as read: 30 bytes plus 8 a line (R200). -/
def Charge.size (c : Charge) : Nat := 30 + 8 * c.lines.length

/-- The records that fit whole in the rest of a reply body, up to n of them (R142). -/
def fitting : Nat → Nat → List Charge → List Charge
  | 0, _, _ => []
  | _, _, [] => []
  | n + 1, room, c :: cs => if c.size ≤ room then c :: fitting n (room - c.size) cs else []

/-- The records a CHARGE-READ of S begins with (R142). -/
def Posting.readFrom (p : Posting) (s : Nat) : List Charge :=
  if p.lastSeq = 0 then []
  else if s = 0 then p.committed
  else
    match p.placeOf s with
    | .inQueue back => p.committed.drop (p.committed.length - 1 - back)
    | .behind => p.committed
    | .ahead => []

/-- The records a CHARGE-READ of S returns: up to 8, as many as fit in one reply body behind its 15 bytes (R142, R200). -/
def Posting.read (p : Posting) (s : Nat) : List Charge :=
  fitting Limits.chargesPerReply (Limits.bodyBytes - 15) (p.readFrom s)

/-- CHARGE-READ (R142, R143). -/
def serveChargeRead (b : Body Nat) (s : State) : Answer :=
  orFormat b s fun q =>
    let rs := s.posting.read q
    { state := s, status := .ok
      body := [.u1 rs.length, .u2 s.posting.committed.length, .u2 s.posting.reserved, .seq s.posting.oldest,
          .seq s.posting.last, .u1 (if s.posting.high then 1 else 0)] ++ rs.flatMap Charge.fields }

/-! ## CHARGE-POSTED -/

/-- The money of one posted record moves from pending into the balance of its account, warning re-evaluated (R145). That a
record of an account closed since, which has total 0, touches no account is the model's choice (log 50). -/
def postOne (c : Charge) (s : State) : State :=
  match s.account? c.account with
  | none => s
  | some a =>
    writeAccount c.account { a with pending := a.pending - c.total, balance := a.balance + c.total } .posted s

/-- The money of posted records, oldest first (R145). -/
def postAll : List Charge → State → State
  | [], s => s
  | c :: cs, s => postAll cs (postOne c s)

/-- The oldest k records are posted, and BACKLOG-LOW is raised where R146 calls for it (R145). -/
def removeCharges (k : Nat) (s : State) : State :=
  let s' := postAll (s.posting.committed.take k) s
  let p : Posting := { s'.posting with committed := s'.posting.committed.drop k }
  if p.high = true ∧ p.committed.length ≤ Limits.backlogLow then
    raise .backlogLow { p with high := false }.backlogFields (s'.withPosting { p with high := false })
  else s'.withPosting p

/-- The reply of an accepted CHARGE-POSTED that removed k records (R144). -/
def postedReply (k : Nat) (s : State) : Answer :=
  { state := s, status := .ok
    body := [.u2 k, .u2 s.posting.committed.length, .seq s.posting.oldest, .seq s.posting.last] }

/-- CHARGE-POSTED (R144, R145). -/
def serveChargePosted (b : Body Nat) (s : State) : Answer :=
  orFormat b s fun q =>
    if q = 0 then refuse s .range
    else
      match s.posting.placeOf q with
      | .ahead => refuse s .range
      | .behind => postedReply 0 s
      | .inQueue back =>
        postedReply (s.posting.committed.length - back) (removeCharges (s.posting.committed.length - back) s)

end Sys2Proof.Machine
end

