-- ==== Sys2Proof/Machine/Purchase.lean ====
section
/-! DEFINITION. The purchase unit: delivery to bar terminals (R114), checking and pricing (R115 to R125), and a quote's
creation, commit and release (R126 to R133). -/

namespace Sys2Proof.Machine

/-! ## Delivery (R114) -/

/-- Delivers a QUOTE or RESULT: placed at once, or the slot's waiting command, in place of any that waits there. -/
def deliver (t : TermId) (c : Command) (s : State) : State :=
  match s.slot? t with
  | none => s
  | some x =>
    if s.free t && x.waiting.isNone then place t c s else s.setSlot t { x with waiting := some c }

/-- A command is a QUOTE. -/
def Command.isQuote : Command → Bool
  | .quote .. => true
  | _ => false

/-- The slot holds back the QUOTE of its open quote: the QUOTE acknowledged now is an earlier quote's (log 27). -/
def Slot.quoteWaits (x : Slot) : Bool :=
  match x.waiting with
  | some c => c.isQuote
  | none => false

/-- A quote marked shown. -/
def Slot.markShown (x : Slot) : Slot := { x with quote := x.quote.map (fun q => { q with shown := true }) }

/-- A bar terminal has acknowledged a command: a QUOTE marks the quote it carries shown, and a waiting command is
placed (R114). -/
def barAcked (t : TermId) (c : Command) (s : State) : State :=
  match s.slot? t with
  | none => s
  | some x =>
    let y := if c.isQuote && !x.quoteWaits then x.markShown else x
    match x.waiting with
    | none => s.setSlot t y
    | some w => place t w (s.setSlot t { y with waiting := none })

/-! ## The end of a quote -/

/-- Releases the reservations of a terminal's quote and removes it (R130). -/
def releaseQuote (t : TermId) (s : State) : State :=
  match s.slot? t with
  | none => s
  | some x =>
    match x.quote with
    | none => s
    | some q =>
      let s1 :=
        match s.account? q.account with
        | none => s
        | some a => writeAccount q.account { a with held := a.held - q.total } .release s
      let s2 := s1.modifyCard q.card (fun c => { c with drinksHeld := c.drinksHeld - q.drinks, quote := none })
      let s3 := s2.withPosting { s2.posting with reserved := s2.posting.reserved - 1 }
      s3.setSlot t { x with quote := none }

/-- Ends a terminal's quote with a RESULT (R129 to R131). -/
def endQuote (t : TermId) (r : ResultContent) (s : State) : State := deliver t (.result r) (releaseQuote t s)

/-- Voids the quote of a card, if it holds one (R131). -/
def voidQuote (card : Nat) (reason : Code) (s : State) : State :=
  match s.card? card with
  | none => s
  | some c =>
    match c.quote with
    | none => s
    | some t => endQuote t (.voided reason) s

/-- A bar terminal has left ONLINE: the waiting command is discarded and a quote is voided without a RESULT (R132). -/
def barLost (t : TermId) (s : State) : State :=
  releaseQuote t (s.modifySlot t (fun x => { x with waiting := none }))

/-! ## Pricing (R121 to R124) -/

/-- An amount at a rate in basis points, rounded half up (R123). -/
def halfUp (x r : Nat) : Nat := (x * r + 5000) / 10000

/-- The terms a purchase is priced under, read once (R122). -/
structure Terms where
  honoured : Bool
  package  : Package
  drinkCap : Nat
  discount : Nat
  rate     : Nat
  deriving DecidableEq, Repr

/-- The covered units of a line, with the drinks that remain before it (R109, R121). -/
def Terms.covered (k : Terms) (cat : Category) (qty remaining : Nat) : Nat :=
  if k.honoured && k.package.covers cat then
    if cat.counts then min qty remaining else qty
  else 0

/-- A line's net: its gross less the line discount (R122, R123). -/
def Terms.net (k : Terms) (i : Item) (qty covered : Nat) : Nat :=
  let gross := covered * (i.price - k.drinkCap) + (qty - covered) * i.price
  gross - halfUp gross k.discount

/-- The lines priced in the order received, with the drinks they take (R121, R122). -/
def priceLines (k : Terms) : Nat → List (OrderLine × Item) → List QuoteLine × Nat
  | _, [] => ([], 0)
  | remaining, (l, i) :: rest =>
    let covered := k.covered i.category l.qty remaining
    let drinks := if i.category.counts then covered else 0
    let r := priceLines k (remaining - drinks) rest
    ({ item := l.item, qty := l.qty, covered, net := k.net i l.qty covered } :: r.1, drinks + r.2)

/-- A priced purchase (R124). -/
structure Priced where
  lines    : List QuoteLine
  subtotal : Nat
  service  : Nat
  total    : Nat
  drinks   : Nat
  deriving DecidableEq, Repr

/-- The sum of the line nets. -/
def sumNets : List QuoteLine → Nat
  | [] => 0
  | l :: ls => l.net + sumNets ls

/-- Prices a purchase: lines, subtotal, service charge, total and drinks to hold (R121 to R124). -/
def price (k : Terms) (remaining : Nat) (ls : List (OrderLine × Item)) : Priced :=
  let r := priceLines k remaining ls
  let subtotal := sumNets r.1
  let service := halfUp subtotal k.rate
  { lines := r.1, subtotal, service, total := subtotal + service, drinks := r.2 }

/-! ## Checking a purchase (R115 to R120) -/

/-- A purchase is refused: a SHOW is placed where the terminal is free, the slot has no waiting command and no quote
(R115). -/
def refusePurchase (t : TermId) (c : Code) (s : State) : State :=
  match s.slot? t with
  | none => s
  | some x => if s.free t && x.waiting.isNone && x.quote.isNone then place t (.show c) s else s

/-- The item of a line, where it is in range and ACTIVE (R116, check 7). -/
def activeItem (s : State) (n : Nat) : Option Item :=
  if n < Limits.items then (s.item? n).filter (·.active) else none

/-- Checks 5 to 10 of R116, in order. -/
def linesRefusal (c : Card) (lines : List OrderLine) (s : State) : Option Code :=
  if c.quote.isSome || c.passage.isSome then some .busy
  else if lines.length < 1 || 12 < lines.length || lines.any (fun l => l.qty < 1 || 99 < l.qty) then some .format
  else if lines.any (fun l => (activeItem s l.item).isNone) then some .item
  else if !c.adult && lines.any (fun l => ((activeItem s l.item).map (·.adultOnly)).getD false) then some .age
  else if (s.account? c.account).isNone then some .noAccount
  else if s.startup.loss.b then some .store
  else none

/-- Checks 12 to 15 of R116, in order (R120). -/
def totalRefusal (o : Outlet) (a : Account) (p : Posting) (total : Nat) : Option Code :=
  if o.ceiling < total then some .ceiling
  else if (a.limit : Int) < a.exposure + total then some .credit
  else if a.allowance < a.pending + a.held + total then some .allowance
  else if p.committed.length + p.reserved ≥ Limits.postingPlaces then some .full
  else none

/-- The lines of a purchase with their items, once every line's item is ACTIVE. -/
def withItems (s : State) (lines : List OrderLine) : List (OrderLine × Item) :=
  lines.filterMap (fun l => (activeItem s l.item).map (fun i => (l, i)))

/-- The figures of a card's purchase at an outlet (R121 to R124). -/
def purchasePrice (c : Card) (a : Account) (o : Outlet) (lines : List OrderLine) (s : State) : Priced :=
  price { honoured := o.honoured, package := c.package, drinkCap := c.drinkCap, discount := a.discount, rate := o.rate }
    (c.dailyCap - c.drinksUsed - c.drinksHeld) (withItems s lines)

/-- Creates a quote, with its reservations, and delivers its QUOTE (R127). -/
def createQuote (t : TermId) (x : Slot) (n : Nat) (c : Card) (a : Account) (p : Priced) (s : State) : State :=
  let q : Quote :=
    { card := n, account := c.account, outlet := x.outlet, lines := p.lines, subtotal := p.subtotal, service := p.service
      total := p.total, drinks := p.drinks, expiry := s.now + 1000 * (s.outlet x.outlet).timeout, shown := false }
  let s1 := s.setSlot t { x with quote := some q }
  let s2 := writeAccount c.account { a with held := a.held + p.total } .quote s1
  let s3 := s2.setCard n { c with drinksHeld := c.drinksHeld + p.drinks, quote := some t }
  let s4 := s3.withPosting { s3.posting with reserved := s3.posting.reserved + 1 }
  deliver t (.quote p.total p.service p.drinks) (wake t.line s4)

/-- A GUEST card that is ABOARD buys: checks 5 to 15, then the quote (R116). -/
def purchaseByGuest (t : TermId) (x : Slot) (n : Nat) (c : Card) (lines : List OrderLine) (s : State) : State :=
  match linesRefusal c lines s, s.account? c.account with
  | some code, _ => refusePurchase t code s
  | none, none => refusePurchase t .noAccount s
  | none, some a =>
    let p := purchasePrice c a (s.outlet x.outlet) lines s
    match totalRefusal (s.outlet x.outlet) a s.posting p.total with
    | some code => refusePurchase t code s
    | none => createQuote t x n c a p s

/-- A PURCHASE with its lookup outcome: the checks of R116 in order. -/
def purchaseLooked (t : TermId) (x : Slot) (lk : Lookup) (lines : List OrderLine) (s : State) : State :=
  if x.quote.isSome then refusePurchase t .busy s
  else
    match lk with
    | .withdrawn => refusePurchase t .withdrawn s
    | .unknown => refusePurchase t .unknown s
    | .suspended _ => refusePurchase t .suspended s
    | .lost _ => refusePurchase t .lost s
    | .active n c =>
      if c.kind ≠ .guest then refusePurchase t .notPermitted s
      else if c.presence = .ashore then
        setConflict n .ashoreUse (.terminal t) (refusePurchase t .ashore s)
      else purchaseByGuest t x n c lines s

/-- A PURCHASE taken from a bar terminal (R113, R116). -/
def purchase (t : TermId) (serial : Serial) (lines : List OrderLine) (s : State) : State :=
  match s.slot? t with
  | none => s
  | some x => purchaseLooked t x (lookup serial s) lines (lookupNotice (lookup serial s) serial t s)

/-! ## Keys and expiry -/

/-- Commits a quote (R128, R141). -/
def commitQuote (t : TermId) (x : Slot) (q : Quote) (s : State) : State :=
  let seq := nextSequence s.posting.lastSeq
  let s1 := appendCharge
    { sequence := seq, account := q.account, card := q.card, outlet := q.outlet, terminal := t, time := s.clock
      lines := q.lines, subtotal := q.subtotal, service := q.service, total := q.total, drinks := q.drinks } s
  let s2 :=
    match s1.account? q.account with
    | none => s1
    | some a => writeAccount q.account { a with pending := a.pending + q.total, held := a.held - q.total } .commit s1
  let s3 := s2.modifyCard q.card (fun c =>
    { c with drinksUsed := c.drinksUsed + q.drinks, drinksHeld := c.drinksHeld - q.drinks, quote := none })
  deliver t (.result (.approved q.total seq)) (s3.setSlot t { x with quote := none })

/-- A KEY that finds no quote is too late (R133). -/
def keyTooLate (t : TermId) (s : State) : State := deliver t (.result (.voided .late)) s

/-- KEY CONFIRM (R128, R133): commits a shown quote, is discarded where it is not shown, is too late without one. -/
def keyConfirm (t : TermId) (s : State) : State :=
  match s.slot? t with
  | none => s
  | some x =>
    match x.quote with
    | none => keyTooLate t s
    | some q => if q.shown then commitQuote t x q s else s

/-- KEY CANCEL (R129, R133). -/
def keyCancel (t : TermId) (s : State) : State :=
  match s.slot? t with
  | none => s
  | some x => if x.quote.isSome then endQuote t .cancelled s else keyTooLate t s

/-- A quote's expiry is reached (R130). -/
def expireQuote (t : TermId) (s : State) : State :=
  match s.slot? t with
  | none => s
  | some x =>
    match x.quote with
    | none => s
    | some q => endQuote t .expired (reach q.expiry s)

end Sys2Proof.Machine
end

