-- ==== Sys2Proof/Machine/Lanes.lean ====
section
/-! DEFINITION. The lane controller: lane states, grants, passages, stop inputs (R49 to R71) and its two requests. -/

namespace Sys2Proof.Machine

/-! ## Lane states and waiting -/

/-- The lane is DOWN: a gate its chain needs is none or not ONLINE (R51). -/
def laneDown (s : State) (n : Nat) : Bool :=
  !(s.gateOnline (s.lane n).first) || ((s.lane n).chain == .double && !(s.gateOnline (s.lane n).second))

/-- The lane state (R51). -/
def laneState (s : State) (n : Nat) : LaneState :=
  if laneDown s n then .down else if (s.lane n).passage.isSome then .busy else .idle

/-- First or second gate of a lane. -/
inductive Gate where
  | first
  | second
  deriving DecidableEq, Repr

/-- The gate a passage in this state waits on (R57). -/
def PassageState.awaits : PassageState → Option Gate
  | .waitingPace => none
  | .firstSending | .firstReleased | .firstRevoking => some .first
  | .secondSending | .secondReleased | .secondRevoking => some .second

/-- The terminal at a gate of a lane. -/
def Lane.gate (l : Lane) : Gate → Option TermId
  | .first => l.first
  | .second => l.second

/-- The lane and gate a binding serves. -/
def Binding.gate : Binding → Option (Nat × Gate)
  | .gateFirst n => some (n, .first)
  | .gateSecond n => some (n, .second)
  | _ => none

/-- Writes the passage of a lane. -/
def setPassage (n : Nat) (p : Option Passage) (s : State) : State :=
  s.setLane n { s.lane n with passage := p }

/-! ## The end of a passage (R69, R70) -/

/-- What the presence unit does with the end of a passage (R30 to R32, R70). -/
def reportEnd (n : Nat) (p : Passage) (o : PassageOutcome) (s : State) : State :=
  match o with
  | .completed => applyCompleted p.card n p.direction p.trip s
  | .uncertain => setConflict p.card .uncertainPassage (.lane n) s
  | .notTaken | .incomplete | .cancelled _ => s

/-- What a PASSAGE notice of an end carries (R70). That the byte of the reason is there for every outcome, FFh for any but
CANCELLED, is the model's choice (log 51). -/
def endFields (n : Nat) (p : Passage) (o : PassageOutcome) : List Field :=
  [.u1 n, .num (some p.card), .u1 p.direction.num, .trip p.trip, .u1 o.num, .code (o.reason.map Code.num),
    .u1 p.state.num]

/-- Ends the passage p of lane n: the card is freed, the presence unit told, the PASSAGE notice raised and the record
removed (R69). A command outstanding at a gate is left to run. -/
def endPassage (n : Nat) (p : Passage) (o : PassageOutcome) (s : State) : State :=
  (((s.modifyCard p.card (fun c => { c with passage := none })) |> reportEnd n p o)
    |> raise o.notice (endFields n p o)) |> setPassage n none

/-- Ends lane n's passage in WAITING-PACE CANCELLED (R65); any other is left to run. -/
def cancelWaiting (n : Nat) (reason : Code) (s : State) : State :=
  match (s.lane n).passage with
  | some p => if p.state = .waitingPace then endPassage n p (.cancelled reason) s else s
  | none => s

/-! ## Moving a passage on (R58 to R63) -/

/-- A passage in WAITING-PACE whose first gate has no command outstanding enters FIRST-SENDING with its RELEASE placed
(R58). -/
def leavePace (n : Nat) (s : State) : State :=
  match (s.lane n).passage, (s.lane n).first with
  | some p, some g =>
    if p.state = .waitingPace ∧ s.free g then
      place g .release (setPassage n (some { p with state := .firstSending, releasePlaced := true }) s)
    else s
  | _, _ => s

/-- A passage enters SECOND-SENDING; its RELEASE is placed at once where the second gate is free (R59, R60). -/
def enterSecond (n : Nat) (p : Passage) (g : TermId) (s : State) : State :=
  let q : Passage := { p with state := .secondSending, expiry := none, releasePlaced := s.free g }
  if s.free g then place g .release (setPassage n (some q) s) else setPassage n (some q) s

/-- The person has gone through the first gate (R60). -/
def passedFirst (n : Nat) (p : Passage) (s : State) : State :=
  match (s.lane n).chain, (s.lane n).second with
  | .single, _ => endPassage n p .completed s
  | .double, some g => if s.online g then enterSecond n p g s else endPassage n p .uncertain s
  | .double, none => endPassage n p .uncertain s

/-- A stray PASSED: an entry and a notice, and nothing else (R68; log 14). -/
def strayPassed (t : TermId) (n : Nat) (s : State) : State :=
  raise .stray [.u1 n, .u1 (s.term t).binding.num, .term (some t)]
    (writeEntry .stray (some t) ((s.lane n).passage.map (·.card)) none [.lane n] s)

/-- A PASSED from a gate of a lane (R60, R61, R68). -/
def gatePassed (t : TermId) (s : State) : State :=
  match (s.term t).binding.gate with
  | none => s
  | some (n, g) =>
    match (s.lane n).passage with
    | none => strayPassed t n s
    | some p =>
      if p.state.awaits = some g ∧ p.releasePlaced then
        match g with
        | .first => passedFirst n p s
        | .second => endPassage n p .completed s
      else strayPassed t n s

/-- A timeout of a released gate expires: REVOKE is placed there, and the passage is in the REVOKING state (R62). -/
def gateTimeout (n : Nat) (g : Gate) (s : State) : State :=
  match (s.lane n).passage with
  | none => s
  | some p =>
    if p.state = (match g with | .first => PassageState.firstReleased | .second => .secondReleased) then
      let s1 := reach (p.expiry.getD s.now) s
      let s2 := setPassage n (some { p with
        state := (match g with | .first => .firstRevoking | .second => .secondRevoking), expiry := none }) s1
      match (s.lane n).gate g with
      | some t => place t .revoke s2
      | none => s2
    else s

/-- A pacing tick of a lane: with a pacing period above 0 it lets a waiting passage go (R58). -/
def pacingTick (n : Nat) (s : State) : State :=
  if (s.lane n).pacing = 0 then s else leavePace n s

/-- A RELEASE waiting for its gate is placed: a passage in SECOND-SENDING at the second gate, or one in WAITING-PACE of
a lane with pacing off at the first (R58, R59). -/
def afterGateFree (n : Nat) (g : Gate) (s : State) : State :=
  match (s.lane n).passage, (s.lane n).gate g with
  | some p, some t =>
    match g with
    | .first => if (s.lane n).pacing = 0 then leavePace n s else s
    | .second =>
      if p.state = .secondSending ∧ p.releasePlaced = false ∧ s.free t then
        place t .release (setPassage n (some { p with releasePlaced := true }) s)
      else s
  | _, _ => s

/-- The acknowledgement of the lane's RELEASE moves the passage to its RELEASED state and starts its timeout (R59). -/
def releaseAcked (n : Nat) (g : Gate) (p : Passage) (s : State) : State :=
  match g with
  | .first =>
    setPassage n
      (some { p with state := .firstReleased, expiry := some (s.now + 1000 * (s.lane n).firstTimeout) }) s
  | .second =>
    setPassage n
      (some { p with state := .secondReleased, expiry := some (s.now + 1000 * (s.lane n).secondTimeout) }) s

/-- A gate has acknowledged a command (R59, R63): the lane's own RELEASE or REVOKE moves the passage, and any
acknowledgement lets a waiting RELEASE be placed. -/
def gateAcked (n : Nat) (g : Gate) (c : Command) (s : State) : State :=
  match (s.lane n).passage with
  | none => s
  | some p =>
    if c = .release ∧ p.releasePlaced ∧ p.state = (match g with | .first => PassageState.firstSending | .second => .secondSending)
    then releaseAcked n g p s
    else if c = .revoke ∧ g = .first ∧ p.state = .firstRevoking then endPassage n p .notTaken s
    else if c = .revoke ∧ g = .second ∧ p.state = .secondRevoking then endPassage n p .incomplete s
    else afterGateFree n g s

/-- A gate of a lane has left ONLINE (R64). -/
def gateLost (n : Nat) (g : Gate) (s : State) : State :=
  match (s.lane n).passage with
  | none => s
  | some p =>
    match p.state.awaits with
    | none => endPassage n p (.cancelled .laneDown) s
    | some w => if w = g then endPassage n p .uncertain s else s

/-! ## Presentations (R54 to R56) -/

/-- A presentation is refused: a SHOW is placed where the lane has no passage and the terminal is free (R54). -/
def refuseAtGate (t : TermId) (n : Nat) (c : Code) (s : State) : State :=
  if (s.lane n).passage.isNone && s.free t then place t (.show c) s else s

/-- The grant checks, in order (R55). -/
def grantRefusal (n : Nat) (c : Card) (s : State) : Option Code :=
  let l := s.lane n
  if laneDown s n then some .laneDown
  else if l.passage.isSome then some .busy
  else if (match l.stopLinked with
      | some .stopA => s.stops.stopA.asserted
      | some .stopB => s.stops.stopB.asserted
      | none => false) then some .stopped
  else if (s.presence.call = .closing ∧ l.direction = .out) ∨ s.presence.call = .sailing then some .closed
  else if c.kind = .master then some .notPermitted
  else if c.passage.isSome then some .busy
  else if l.direction = .out ∧ l.tripRequired ∧ l.trip = 0 then some .noBoat
  else if l.direction = .out ∧ l.trip ≠ 0 ∧ seatCheck l.trip s = false then some .full
  else none

/-- The lines of a lane's gates return to RUNNING when a passage is granted (R168). -/
def wakeGate : Option TermId → State → State
  | none, s => s
  | some g, s => wake g.line s

/-- A granted presentation opens a passage (R56). -/
def grant (n card : Nat) (s : State) : State :=
  let l := s.lane n
  let s1 := voidQuote card .passage s
  let s2 := setPassage n
    (some { card, grantTime := s.now, direction := l.direction, trip := l.trip, state := .waitingPace, expiry := none
            releasePlaced := false }) s1
  let s3 := s2.modifyCard card (fun c => { c with passage := some n })
  let s4 := wakeGate l.second (wakeGate l.first s3)
  if l.pacing = 0 then leavePace n s4 else s4

/-- A gate's PRESENT with its lookup outcome (R54, R55). -/
def gatePresentLooked (t : TermId) (n : Nat) (g : Gate) (lk : Lookup) (s : State) : State :=
  match lk with
  | .withdrawn => refuseAtGate t n .withdrawn s
  | .unknown => refuseAtGate t n .unknown s
  | .suspended _ => refuseAtGate t n .suspended s
  | .lost _ => refuseAtGate t n .lost s
  | .active card c =>
    match g with
    | .second => refuseAtGate t n .wrongWay s
    | .first =>
      match grantRefusal n c s with
      | some code => refuseAtGate t n code s
      | none => grant n card s

/-- A PRESENT taken from a gate terminal (R54). -/
def gatePresent (t : TermId) (serial : Serial) (s : State) : State :=
  match (s.term t).binding.gate with
  | none => s
  | some (n, g) => gatePresentLooked t n g (lookup serial s) (lookupNotice (lookup serial s) serial t s)

/-! ## The stop inputs (R66, R67) -/

/-- The lanes linked to a stop input, ascending. -/
def linkedLanes (i : StopInput) (s : State) : List Nat :=
  ((List.range Limits.lanes).map (· + 1)).filter (fun n => (s.lane n).stopLinked == some i)

/-- The debounced level of an input. -/
def Stops.level (x : Stops) : StopInput → Bool
  | .stopA => x.stopA.asserted
  | .stopB => x.stopB.asserted

/-- Writes an input's debouncer. -/
def Stops.set (x : Stops) (i : StopInput) (d : Debounce) : Stops :=
  match i with
  | .stopA => { x with stopA := d }
  | .stopB => { x with stopB := d }

/-- Cancels the waiting passages of some lanes (R67). -/
def cancelLanes : List Nat → State → State
  | [], s => s
  | n :: ns, s => cancelLanes ns (cancelWaiting n .stopped s)

/-- The debounced level of an input changes: notice, entry, and on assertion the linked lanes' waiting passages are
cancelled (R66, R67). -/
def stopChange (i : StopInput) (asserted : Bool) (s : State) : State :=
  let lanes := linkedLanes i s
  let s1 := raise (if asserted then .stopAsserted else .stopReleased)
    ([.u1 (stopInputNum i), .u1 lanes.length] ++ lanes.map Field.u1)
    (s.withStops (s.stops.set i { asserted, last := some asserted }))
  let s2 := writeEntry .stop none none (some (.stop asserted)) [.stopInput i] s1
  if asserted then cancelLanes lanes s2 else s2

/-- The level at an input's pin. -/
def Pins.level (p : Pins) : StopInput → Bool
  | .stopA => p.stopA
  | .stopB => p.stopB

/-- Writes the level at an input's pin. -/
def Pins.set (p : Pins) (i : StopInput) (v : Bool) : Pins :=
  match i with
  | .stopA => { p with stopA := v }
  | .stopB => { p with stopB := v }

/-- The debouncer of an input. -/
def Stops.get (x : Stops) : StopInput → Debounce
  | .stopA => x.stopA
  | .stopB => x.stopB

/-- One sample of an input: the debounced level changes when two consecutive samples agree on another level (R66). -/
def sampleStop (i : StopInput) (s : State) : State :=
  let v := s.pins.level i
  let d := s.stops.get i
  if d.last = some v ∧ v ≠ d.asserted then stopChange i v s
  else s.withStops (s.stops.set i { d with last := some v })

/-! ## Lane requests -/

/-- LANE-SET's clamps (R52). -/
def clampPacing (v : Nat) : Nat := if v = 0 then 0 else clamp 300 5000 v

/-- The settings of a lane as stored (R52, R53). -/
def Lane.settings (l : Lane) : List Field :=
  [.u1 l.direction.num, .u1 l.chain.num, .flag l.tripRequired, .u2 l.pacing, .u1 l.firstTimeout, .u1 l.secondTimeout,
    .u1 (stopLinkedNum l.stopLinked)]

/-- A terminal is bound GATE-SECOND to the lane (R52, check 4). -/
def secondBound (n : Nat) (s : State) : Bool := s.field.terms.any (fun p => p.2.binding == .gateSecond n)

/-- LANE-SET (R52). A changed pacing period restarts the pacing timer. -/
def serveLaneSet (b : Body LaneSetReq) (s : State) : Answer :=
  orFormat b s fun q =>
    if validLane q.lane = false then refuse s .range
    else
      match Direction.ofNum q.direction, Chain.ofNum q.chain, yesNo q.tripRequired, stopLinkedOfNum q.stopLinked with
      | some direction, some chain, some tripRequired, some stopLinked =>
        let l := s.lane q.lane
        if l.passage.isSome then refuse s .busy
        else if chain = .single ∧ secondBound q.lane s then refuse s .wrongState
        else
          let l' : Lane :=
            { l with
              direction, chain, tripRequired, stopLinked
              pacing := clampPacing q.pacing
              firstTimeout := clamp 5 60 q.firstTimeout
              secondTimeout := clamp 5 60 q.secondTimeout
              pacingStart := if clampPacing q.pacing = l.pacing then l.pacingStart else s.now }
          { state := s.setLane q.lane l', status := .ok, body := l'.settings }
      | _, _, _, _ => refuse s .range

/-- A gate with its online state (R53); FFh as the online state of a gate that is none is the model's choice (log 45). -/
def gateFields (s : State) : Option TermId → List Field
  | none => [.term none, .code none]
  | some t => [.term (some t), .code (some (s.term t).online.num)]

/-- LANE-READ (R53). That the three fields of a passage are there without one, marked absent, is the model's choice (log
45). -/
def serveLaneRead (b : Body Nat) (s : State) : Answer :=
  orFormat b s fun n =>
    if validLane n = false then refuse s .range
    else
      let l := s.lane n
      { state := s, status := .ok
        body := l.settings ++ gateFields s l.first ++ gateFields s l.second ++
          [.trip l.trip, .u1 (laneState s n).num, .flag s.stops.stopA.asserted, .flag s.stops.stopB.asserted] ++
          (match l.passage with
            | none => [.num none, .code none, .ms none]
            | some p => [.num (some p.card), .code (some p.state.num), .ms (some (s.now - p.grantTime))]) }

end Sys2Proof.Machine
end

