-- ==== Sys2Proof/Config.lean ====
section
/-! DEFINITION. What the manual leaves open, as constants without a body: nothing can be proved of their values, so
whatever is proved holds for every choice (log 7, 8, 9). -/

namespace Sys2Proof.Config

/-- R161: where one reply carries both the acknowledgement of a command and an event, "the order in which that block
takes them is not fixed". The n-th such reply since power-on is taken acknowledgement first exactly when this says so
(log 7). -/
opaque ackFirst : Nat → Bool

/-- R22, R198: the bytes of a field marked absent whose type has no absent encoding (yes/no, count, money, list,
duration), and of the value of an absent detail item (R200). Arguments: the width in bytes and the byte's place (log 9). -/
opaque absentByte : Nat → Nat → Byte

/-- The fields of CARD-SET and ACCOUNT-SET that a request may leave absent and whose type has no absent encoding (R18,
R101, R198). -/
inductive OpenField where
  | window | doors | adult | drinkCap | dailyCap
  | balance | limit | allowance | discount
  deriving DecidableEq, Repr

/-- R18, R101, R198: whether the bytes of such a field mark it absent. It is asked only where the bytes are no value of the
field's range: R198 gives every value of the range its meaning, and says of no other how a field is marked absent
(log 8). -/
opaque absentMark : OpenField → List Byte → Bool

end Sys2Proof.Config
end

