-- ==== Sys2Proof/Machine/Wire.lean ====
section
/-! DEFINITION. The bytes on the two sides of the part: field encodings (R198), the check and the frame of the host
link (R172), polls and replies of the field lines (R199). -/

namespace Sys2Proof.Machine

/-! ## Numbers as bytes -/

/-- The low byte of a number. -/
def lowByte (n : Nat) : Byte := BitVec.ofNat 8 n

/-- n in w bytes, low byte first. -/
def leBytes : Nat → Nat → List Byte
  | 0, _ => []
  | w + 1, n => lowByte n :: leBytes w (n / 256)

/-- Bytes, low byte first, as a number. -/
def leNat : List Byte → Nat
  | [] => 0
  | b :: bs => b.toNat + 256 * leNat bs

/-- A signed amount in four bytes, two's complement (R198). -/
def moneyBytes (v : Int) : List Byte := leBytes 4 (BitVec.ofInt 32 v).toNat

/-- Four bytes as a signed amount (R198). -/
def moneyOf (n : Nat) : Int := (BitVec.ofNat 32 n).toInt

/-- Ten bytes: the serial, then zero bytes to fill (R198). -/
def serialPad (s : Serial) : List Byte := s ++ List.replicate (10 - s.length) 0

/-- The bytes of one field (R198). -/
def Field.bytes : Field → List Byte
  | .u1 n => leBytes 1 n
  | .u2 n => leBytes 2 n
  | .code n => leBytes 1 (n.getD 0xFF)
  | .num n => leBytes 2 (n.getD 0xFFFF)
  | .money v => moneyBytes v
  | .seq n => leBytes 4 (n.getD 0)
  | .trip n => leBytes 1 n
  | .ms t => leBytes 4 (t.getD 0xFFFFFFFF)
  | .term none => [0, 0]
  | .term (some t) => [lowByte t.line, lowByte t.addr]
  | .time none => leBytes 2 0 ++ leBytes 3 0xFFFFFF
  | .time (some t) => leBytes 2 t.day ++ leBytes 3 t.sec
  | .serial s => lowByte s.length :: serialPad s
  | .flag b => [if b then 1 else 0]
  | .absent w => (List.range w).map (Config.absentByte w)

/-- The bytes of a body. -/
def fieldBytes (fs : List Field) : List Byte := fs.flatMap Field.bytes

/-! ## The check and the host link's frames (R172) -/

/-- One bit of the check: shift left, with 1021h where the top bit was set. -/
def crcBit (c : BitVec 16) : BitVec 16 :=
  if c.msb then (c <<< 1) ^^^ 0x1021#16 else c <<< 1

/-- The check register after k more bits. -/
def crcBits : Nat → BitVec 16 → BitVec 16
  | 0, c => c
  | k + 1, c => crcBits k (crcBit c)

/-- The check register after one byte, its most significant bit first (nothing is reflected). -/
def crcByte (c : BitVec 16) (b : Byte) : BitVec 16 :=
  crcBits 8 (c ^^^ (b.zeroExtend 16 <<< 8))

/-- The check over a run of bytes: polynomial 1021h, initial value FFFFh, no final value (R172). -/
def crc (bs : List Byte) : BitVec 16 := bs.foldl crcByte 0xFFFF#16

/-- The check in two bytes, low byte first. -/
def crcBytes (bs : List Byte) : List Byte := leBytes 2 (crc bs).toNat

/-- What the check of a host link frame covers: length, kind, tag and body (R172). -/
def frameInner (kind : Nat) (tag : Byte) (body : List Byte) : List Byte :=
  leBytes 2 body.length ++ lowByte kind :: tag :: body

/-- A whole frame of the host link (R172). -/
def frameBytes (kind : Nat) (tag : Byte) (body : List Byte) : List Byte :=
  0xA5 :: (frameInner kind tag body ++ crcBytes (frameInner kind tag body))

def kindNotice : Nat := 0x70
def kindPause : Nat := 0x71
def kindResume : Nat := 0x72

/-- A request's kind with the reply marker set (R172, R198). A kind of 80h or above has the marker and is sent as it is: the
model's choice (log 43). -/
def replyKind (kind : Nat) : Nat := if kind < 0x80 then kind + 0x80 else kind

/-- The body of a notice: the ten-byte header, then the content (R198). -/
def Notice.fields (n : Notice) (dropped : Nat) : List Field :=
  [.u1 n.name.cls.num, .u1 n.name.num, .u1 n.level, .time n.time, .u2 dropped] ++ n.content

/-- The bytes of a frame the part sends (R172, R198). -/
def OutFrame.bytes : OutFrame → List Byte
  | .pause => frameBytes kindPause 0 []
  | .resume => frameBytes kindResume 0 []
  | .reply r => frameBytes (replyKind r.kind) r.tag (fieldBytes (.u1 r.status.num :: r.body))
  | .notice n d => frameBytes kindNotice 0 (fieldBytes (n.fields d))

/-! ## Polls and replies of a field line (R199) -/

/-- A RESULT's content: its code, then the total and sequence of APPROVED or the reason of VOIDED. -/
def ResultContent.bytes : ResultContent → List Byte
  | .approved total seq => lowByte Code.approved.num :: (moneyBytes total ++ leBytes 4 seq)
  | .cancelled => [lowByte Code.cancelled.num]
  | .expired => [lowByte Code.expired.num]
  | .voided reason => [lowByte Code.voided.num, lowByte reason.num]

/-- A command's content in a poll. -/
def Command.bytes : Command → List Byte
  | .openLock => []
  | .show c => [lowByte c.num]
  | .release => []
  | .revoke => []
  | .quote total service drinks => moneyBytes total ++ moneyBytes service ++ leBytes 1 drinks
  | .result r => r.bytes

/-- The bytes of a poll's command content. -/
def commandBytes : Option Command → List Byte
  | none => []
  | some c => c.bytes

/-- The control byte of a poll: bit 0 command toggle, bit 1 acknowledgement toggle, bit 2 valid, bits 4 to 7 slot. -/
def Poll.control (p : Poll) : Nat :=
  p.toggle.toNat + 2 * p.ack.toNat + 4 * p.ackValid.toNat + 16 * commandSlot p.command

/-- What the check of a poll covers: every byte after the first. -/
def Poll.inner (p : Poll) : List Byte :=
  lowByte p.addr :: lowByte p.control :: lowByte (commandBytes p.command).length :: commandBytes p.command

/-- The bytes of a poll. -/
def Poll.bytes (p : Poll) : List Byte := 0x3C :: (p.inner ++ crcBytes p.inner)

/-- A report in a reply's event (R199, R160). `other` is an event that is taken and discarded: a kind not known, a
length that disagrees with the event's own fields (R199), or a value that is none of the kind's (log 24). -/
inductive Event where
  | present (serial : Serial)
  | purchase (serial : Serial) (lines : List OrderLine)
  | keyConfirm
  | keyCancel
  | passed
  | privacy (on : Bool)
  | contact (isOpen : Bool)
  | other
  deriving DecidableEq, Repr

/-- The serial in an eleven-byte field: its length, 4, 7 or 10, then its bytes (R198). -/
def serialField : List Byte → Option Serial
  | [] => none
  | n :: bs =>
    if bs.length = 10 ∧ (n.toNat = 4 ∨ n.toNat = 7 ∨ n.toNat = 10) then some (bs.take n.toNat) else none

/-- The lines of a PURCHASE: three bytes each, item and quantity. -/
def orderLines : List Byte → List OrderLine
  | i0 :: i1 :: q :: rest => { item := leNat [i0, i1], qty := q.toNat } :: orderLines rest
  | _ => []

/-- The event a reply carries, from its bytes: the kind, then the kind's content (R199). -/
def Event.ofBytes : List Byte → Event
  | [] => .other
  | k :: bs =>
    if k = 1 then
      match serialField bs with
      | some s => .present s
      | none => .other
    else if k = 2 then
      match serialField (bs.take 11), bs.drop 11 with
      | some s, n :: ls => if ls.length = 3 * n.toNat then .purchase s (orderLines ls) else .other
      | _, _ => .other
    else if k = 3 then
      if bs = [1] then .keyConfirm else if bs = [2] then .keyCancel else .other
    else if k = 4 then
      if bs = [] then .passed else .other
    else if k = 5 then
      if bs = [1] then .privacy true else if bs = [0] then .privacy false else .other
    else if k = 6 then
      if bs = [1] then .contact true else if bs = [0] then .contact false else .other
    else .other

/-- A good reply, read (R199). -/
structure GoodReply where
  kind    : Nat
  echo    : Bool
  toggle  : Bool
  more    : Bool
  battery : Nat
  event   : Option Event
  deriving DecidableEq, Repr

/-- What a reply frame is judged to be (R162). -/
inductive Judged where
  | good (r : GoodReply)
  | badCheck
  | wrongAddress
  deriving DecidableEq, Repr

/-- Bit k of a byte. -/
def byteBit (b : Byte) (k : Nat) : Bool := b.getLsbD k

/-- What the check of a reply covers, and the reading of a frame whose check is right: sync C3h, address, kind,
control, battery, event length, event, check. A wrong sync byte, a wrong check or bytes that do not fit the event length
are a bad check, another address than the one polled a wrong address (R162, R199; bytes that do not fit: log 24). That a reply whose
event-present bit is clear carries no event, whatever its event length, is the model's choice (log 47). -/
def judge (polled : Nat) : List Byte → Judged
  | sync :: addr :: kind :: control :: battery :: len :: rest =>
    let event := rest.take len.toNat
    let inner := addr :: kind :: control :: battery :: len :: event
    if sync ≠ 0xC3 ∨ rest.length ≠ len.toNat + 2 ∨ rest.drop len.toNat ≠ crcBytes inner then .badCheck
    else if addr.toNat ≠ polled then .wrongAddress
    else .good
      { kind := kind.toNat, echo := byteBit control 0, toggle := byteBit control 1, more := byteBit control 2,
        battery := battery.toNat, event := if byteBit control 3 then some (Event.ofBytes event) else none }
  | _ => .badCheck

end Sys2Proof.Machine
end

