-- ==== Sys2Proof/Machine/Terminals.lean ====
section
/-! DEFINITION. The field line controller's terminals: leaving ONLINE (R166), misses (R163), acknowledgements (R159),
events (R160), replies (R161 to R165), probes, slow sweeps and breaks (R164, R168, R169), and its six requests (R150 to
R157). -/

namespace Sys2Proof.Machine

/-- A binding as carried in a notice or reply: its code, then the door and section, the outlet or the lane (log 11). -/
def Binding.fields : Binding → List Field
  | .unbound => [.u1 0]
  | .door number sect => [.u1 1, .num (some number), .u1 sect]
  | .bar outlet => [.u1 2, .u1 outlet]
  | .gateFirst lane => [.u1 3, .u1 lane]
  | .gateSecond lane => [.u1 4, .u1 lane]

/-! ## Leaving ONLINE (R166) -/

/-- The block of a binding is told that its terminal has left ONLINE, and of the command abandoned (R166, step 3). -/
def tellLost (t : TermId) (b : Binding) (abandoned : Option Command) (s : State) : State :=
  match b with
  | .unbound => s
  | .door .. => doorLost t abandoned s
  | .bar _ => barLost t s
  | .gateFirst n => gateLost n .first s
  | .gateSecond n => gateLost n .second s

/-- The terminal takes another online state; one that was ONLINE leaves ONLINE (R166). -/
def leaveOnline (t : TermId) (v : OnlineState) (s : State) : State :=
  let r := s.term t
  if r.online = .online then tellLost t r.binding r.outstanding (s.setTerm t { r with online := v, outstanding := none })
  else s.setTerm t { r with online := v }

/-- The third miss in a row makes a terminal OFFLINE (R163). -/
def thirdMiss (t : TermId) (s : State) : State :=
  leaveOnline t .offline
    (raise .offline ([.term (some t)] ++ (s.term t).binding.fields ++ [.u1 LeaveCause.misses.num])
      (s.setTerm t { s.term t with misses := 0, probeDue := some (s.now + Limits.probeMs) }))

/-- A miss of the terminal polled (R163). -/
def miss (t : TermId) (s : State) : State :=
  if (s.term t).inRound then
    if Limits.misses ≤ (s.term t).misses + 1 then thirdMiss t s
    else s.setTerm t { s.term t with misses := (s.term t).misses + 1 }
  else s

/-! ## Acknowledgements (R159) -/

/-- The acknowledgement of a command handed to the block of the binding. -/
def tellAcked (t : TermId) (b : Binding) (c : Command) (s : State) : State :=
  match b with
  | .unbound => s
  | .door .. => if c = .openLock then openAcked t s else s
  | .bar _ => barAcked t c s
  | .gateFirst n => gateAcked n .first c s
  | .gateSecond n => gateAcked n .second c s

/-- The command outstanding at a terminal is acknowledged (R159). -/
def commandAcked (t : TermId) (s : State) : State :=
  match (s.term t).outstanding with
  | none => s
  | some c => tellAcked t (s.term t).binding c (clearOutstanding t s)

/-- The acknowledgement of a command of some kind, from an ONLINE terminal that has it outstanding (log 20). -/
def ackOf (f : Command → Bool) (t : TermId) (s : State) : State :=
  match (s.term t).outstanding with
  | none => s
  | some c => if s.online t && f c then commandAcked t s else s

/-! ## Events (R160) -/

/-- An event taken is handed on by the binding; a kind not listed for it is discarded. -/
def dispatchEvent (t : TermId) (b : Binding) (e : Event) (s : State) : State :=
  match b, e with
  | .door .., .present serial => doorPresent t serial s
  | .door .., .privacy on => doorPrivacy t on s
  | .door .., .contact isOpen => doorContact t isOpen s
  | .bar _, .purchase serial lines => purchase t serial lines s
  | .bar _, .keyConfirm => keyConfirm t s
  | .bar _, .keyCancel => keyCancel t s
  | .gateFirst _, .present serial => gatePresent t serial s
  | .gateSecond _, .present serial => gatePresent t serial s
  | .gateFirst _, .passed => gatePassed t s
  | .gateSecond _, .passed => gatePassed t s
  | _, _ => s

/-- An event is taken on a line: the line returns from SLOW, and the sweep has seen an event (R168). That the event which
itself returns the line from SLOW is not counted for the next sweep, but one whose reply carried more-pending, and so had
returned the line before the event, is, is the model's choice (log 44). -/
def noteEvent (l : Nat) (s : State) : State := wake l (s.setLine l { s.line l with sweepEvent := true })

/-- An event taken from an ONLINE terminal. -/
def takeEvent (t : TermId) (e : Event) (s : State) : State :=
  dispatchEvent t (s.term t).binding e (noteEvent t.line s)

/-- An event command: taken from an ONLINE terminal bound to the kind of job named (log 20). -/
def eventFrom (k : TermKind) (t : TermId) (e : Event) (s : State) : State :=
  if s.online t && (s.term t).binding.expects == some k then takeEvent t e s else s

/-! ## Good replies (R161, R164, R165) -/

/-- The toggle last taken after a good reply: its event's toggle, and where that was unknown the one it carries (R160). -/
def toggleAfter (r : GoodReply) (held : Option Bool) : Option Bool :=
  if r.event.isSome || held.isNone then some r.toggle else held

/-- What every good reply leaves in the terminal record: no miss, the kind seen and the more-pending (R152, R161, R163;
log 22). -/
def noteReply (t : TermId) (r : GoodReply) (s : State) : State :=
  s.setTerm t { s.term t with misses := 0, kindSeen := TermKind.ofNum r.kind, more := r.more }

/-- A reply carrying more-pending yes returns the line to RUNNING (R168). -/
def wakeMore (l : Nat) (r : GoodReply) (s : State) : State := if r.more then wake l s else s

/-- The terminal becomes MISMATCH (R165). -/
def becomeMismatch (t : TermId) (r : GoodReply) (s : State) : State :=
  leaveOnline t .mismatch
    (raise .mismatch
      ([.term (some t)] ++ (s.term t).binding.fields ++
        [.code ((s.term t).binding.expects.map TermKind.num), .code ((TermKind.ofNum r.kind).map TermKind.num)])
      (s.setTerm t { s.term t with probeDue := some (s.now + Limits.probeMs) }))

/-- The terminal becomes ONLINE (R164, steps 1 and 2). -/
def becomeOnline (t : TermId) (r : GoodReply) (s : State) : State :=
  let x := s.term t
  let s1 := s.setTerm t { x with online := .online, toggle := some r.echo, probeDue := none }
  if x.online = .offline then raise .online ([.term (some t)] ++ x.binding.fields) s1 else s1

/-- The echo acknowledges the command outstanding (R159). -/
def echoes (x : Terminal) (r : GoodReply) : Bool := x.outstanding.isSome && x.toggle == some r.echo

/-- The event the reply carries, where it is taken (R160). -/
def newEvent (x : Terminal) (r : GoodReply) : Option Event :=
  if x.eventToggle = some r.toggle then none else r.event

/-- A door unit's battery reading (R93, R161). -/
def readBattery (t : TermId) (b : Binding) (r : GoodReply) (s : State) : State :=
  match b with
  | .door .. => batteryReading t r.battery s
  | _ => s

/-- The acknowledgement and the event of one reply: their order is open where both are there (R161; log 7). -/
def ackAndEvent (t : TermId) (acked : Bool) (e : Option Event) (s : State) : State :=
  match acked, e with
  | false, none => s
  | true, none => commandAcked t s
  | false, some ev => takeEvent t ev s
  | true, some ev =>
    if Config.ackFirst s.choice then takeEvent t ev (commandAcked t (s.withChoice (s.choice + 1)))
    else commandAcked t (takeEvent t ev (s.withChoice (s.choice + 1)))

/-- A good reply of an ONLINE terminal of the expected kind (R161). The spec asks no order of the battery reading against
the rest of the reply; that it is used first, so before a PRESENT that R81 decides by the battery state, and that its
entry joins first, is the model's choice (log 42). -/
def useOnline (t : TermId) (r : GoodReply) (s : State) : State :=
  let x := s.term t
  let s1 := s.setTerm t { x with eventToggle := toggleAfter r x.eventToggle }
  ackAndEvent t (echoes x r) (newEvent x r) (readBattery t x.binding r s1)

/-- The reply's kind is another than the binding expects (R165). -/
def wrongKind (b : Binding) (r : GoodReply) : Bool :=
  match b.expects with
  | none => false
  | some k => TermKind.ofNum r.kind != some k

/-- A good reply is used for the terminal polled (R161, R164, R165). That an event which MISMATCH discards is not counted as
an event taken on the line (R168) is the model's choice (log 44). -/
def useReply (t : TermId) (r : GoodReply) (s : State) : State :=
  let x := s.term t
  let s1 := wakeMore t.line r (noteReply t r s)
  match x.online with
  | .disabled => s
  | .mismatch => s1.setTerm t { s1.term t with eventToggle := toggleAfter r x.eventToggle }
  | .online => if wrongKind x.binding r then becomeMismatch t r s1 else useOnline t r s1
  | .probing | .offline =>
    if wrongKind x.binding r then becomeMismatch t r s1 else useOnline t r (becomeOnline t r s1)

/-! ## The end of an exchange (R162, R167) -/

/-- The four line counters' errors (R149). -/
inductive LineError where
  | badCheck | truncated | wrongAddress | noReply
  deriving DecidableEq, Repr

/-- A line counter rises (R149). -/
def Line.count (l : Line) : LineError → Line
  | .badCheck => { l with badCheck := bump l.badCheck }
  | .truncated => { l with truncated := bump l.truncated }
  | .wrongAddress => { l with wrongAddress := bump l.wrongAddress }
  | .noReply => { l with noReply := bump l.noReply }

/-- An exchange ends with a miss: line counter, the terminal's miss, the next poll; one whose terminal was disabled
since is discarded without either (R156, R162; log 21). -/
def exchangeMissed (l : Nat) (e : LineError) (s : State) : State :=
  match (s.line l).exchange with
  | none => s
  | some p =>
    if p.stale then endExchange l s
    else endExchange l (miss { line := l, addr := p.addr } (s.setLine l ((s.line l).count e)))

/-- The bytes of a reply on a line (R162, R199). -/
def fieldReply (l : Nat) (frame : List Byte) (s : State) : State :=
  match (s.line l).exchange with
  | none => s
  | some p =>
    match judge p.addr frame with
    | .badCheck => exchangeMissed l .badCheck s
    | .wrongAddress => exchangeMissed l .wrongAddress s
    | .good r =>
      if p.stale then endExchange l s else endExchange l (useReply { line := l, addr := p.addr } r s)

/-! ## Probes, slow sweeps, breaks -/

/-- The probe of an OFFLINE or MISMATCH terminal falls due (R164, R165). -/
def probeFallsDue (t : TermId) (s : State) : State :=
  if (s.term t).probed then
    match (s.term t).probeDue with
    | none => s
    | some d => kick t.line (reach d s)
  else s

/-- A slow sweep begins on a line in SLOW (R168). That polls of the last slow sweep that are still to be made are dropped, and
the new one begins at the lowest ONLINE address, is the model's choice (log 44). -/
def slowSweep (l : Nat) (s : State) : State :=
  if (s.line l).state = .slow then
    kick l (s.setLine l
      { s.line l with slowLeft := allAddresses.filter (fun a => (s.termAt l a).online == .online) })
  else s

/-- The terminals that a FAULT makes OFFLINE (R169, steps 1 and 2). -/
def faultedAddresses (l : Nat) (s : State) : List Nat := allAddresses.filter (fun a => (s.termAt l a).inRound)

/-- The terminals at some addresses of a line become OFFLINE. -/
def allOffline (l : Nat) : List Nat → State → State
  | [], s => s
  | a :: as_, s => allOffline l as_ (leaveOnline { line := l, addr := a } .offline s)

/-- A line is broken and enters FAULT (R169). -/
def lineBreak (l : Nat) (s : State) : State :=
  match (s.line l).state with
  | .stopped | .fault => s
  | .running | .slow =>
    raise .lineFault [.u1 l, .u1 (faultedAddresses l s).length]
      (allOffline l (faultedAddresses l s)
        (s.setLine l { (s.line l).enter .fault with exchange := none }))

/-- The probe of every OFFLINE or MISMATCH terminal of a line falls due now (R169). -/
def probesDueNow (l : Nat) (s : State) : State :=
  allAddresses.foldl (fun x a =>
    if (x.termAt l a).probed then
      x.setTerm { line := l, addr := a } { x.termAt l a with probeDue := some x.now }
    else x) s

/-- The look at a line in FAULT: one found restored enters RUNNING and begins a new sweep (R169; log 23). -/
def lineFaultCheck (l : Nat) (restored : Bool) (s : State) : State :=
  if (s.line l).state = .fault ∧ restored then
    kick l (probesDueNow l (raise .lineRestored [.u1 l] (s.setLine l ((s.line l).enter .running))))
  else s

/-! ## Line requests (R150, R151) -/

/-- The settings of a line as stored, and its state (R150, R151). -/
def Line.settings (l : Line) : List Field :=
  [.u1 l.rate.num, .flag l.enabled, .flag l.slowPermitted, .u1 l.state.num]

/-- Some terminal on the line is not DISABLED (R150, check 3). -/
def anyEnabled (l : Nat) (s : State) : Bool := allAddresses.any (fun a => (s.termAt l a).online != .disabled)

/-- A line record after an accepted LINE-SET (R150; logs 23 and 33). -/
def Line.written (x : Line) (rate : LineRate) (enabled slowPermitted : Bool) : Line :=
  let y : Line := { x with rate, enabled, slowPermitted }
  match x.enabled, enabled with
  | false, true => { y.enter .running with roundPos := 1, priorityRun := 0 }
  | true, false => { y.enter .stopped with exchange := none }
  | false, false => y
  | true, true => if x.state = .slow ∧ slowPermitted = false then y.enter .running else y

/-- LINE-SET (R150). -/
def serveLineSet (b : Body LineSetReq) (s : State) : Answer :=
  orFormat b s fun q =>
    if validLine q.line = false then refuse s .range
    else
      match LineRate.ofNum q.rate, yesNo q.enabled, yesNo q.slowPermitted with
      | some rate, some enabled, some slowPermitted =>
        let x := s.line q.line
        if (rate ≠ x.rate ∨ enabled ≠ x.enabled) ∧ anyEnabled q.line s then refuse s .busy
        else
          let y := x.written rate enabled slowPermitted
          { state := kick q.line (s.setLine q.line y), status := .ok, body := y.settings }
      | _, _, _ => refuse s .range

/-- A terminal in a LINE-READ: its online state and whether it has a command outstanding (R151). -/
def Terminal.summary (r : Terminal) : List Field := [.u1 r.online.num, .flag r.outstanding.isSome]

/-- A line with its counters at 0 (R151). -/
def Line.cleared (x : Line) : Line := { x with badCheck := 0, truncated := 0, wrongAddress := 0, noReply := 0 }

/-- LINE-READ (R151). -/
def serveLineRead (b : Body LineReadReq) (s : State) : Answer :=
  orFormat b s fun q =>
    if validLine q.line = false then refuse s .range
    else
      match yesNo q.clear with
      | none => refuse s .range
      | some clear =>
        let x := s.line q.line
        { state := if clear then s.setLine q.line x.cleared else s
          status := .ok
          body := x.settings ++ [.u2 x.badCheck, .u2 x.truncated, .u2 x.wrongAddress, .u2 x.noReply] ++
            allAddresses.flatMap (fun a => (s.termAt q.line a).summary) }

/-! ## Terminal requests (R154 to R157) -/

/-- The binding a request names, where its values are in range (R154, check 2). -/
def boundTo : BindArg → Option Binding
  | .unbound => some .unbound
  | .door number sect => if 1 ≤ number ∧ number ≤ 9999 ∧ sect ≤ 63 then some (.door number sect) else none
  | .bar outlet => if validOutlet outlet then some (.bar outlet) else none
  | .gateFirst n => if validLane n then some (.gateFirst n) else none
  | .gateSecond n => if validLane n then some (.gateSecond n) else none
  | .unassigned _ => none

/-- A binding is for a door with the number. -/
def Binding.isDoor (number : Nat) : Binding → Bool
  | .door n _ => n == number
  | _ => false

/-- Checks 4 to 6 of TERM-BIND (R154). -/
def bindRefusal (t : TermId) (b : Binding) (s : State) : Option Code :=
  match b with
  | .unbound | .bar _ => none
  | .door number _ =>
    if s.field.terms.any (fun p => p.1 != termKey t && p.2.binding.isDoor number) then some .alreadyExists else none
  | .gateFirst n => if (s.lane n).first.isSome ∧ (s.lane n).first ≠ some t then some .alreadyExists else none
  | .gateSecond n =>
    if (s.lane n).second.isSome ∧ (s.lane n).second ≠ some t then some .alreadyExists
    else if (s.lane n).chain = .single then some .wrongState
    else none

/-- The old binding is removed (R155). -/
def unbind (t : TermId) (b : Binding) (s : State) : State :=
  match b with
  | .unbound => s
  | .door .. => s.withDoors { s.doors with records := s.doors.records.erase (termKey t) }
  | .bar _ => s.withSlots (s.slots.erase (termKey t))
  | .gateFirst n => s.setLane n { s.lane n with first := none }
  | .gateSecond n => s.setLane n { s.lane n with second := none }

/-- What a binding makes (R155). -/
def makeBinding (t : TermId) (b : Binding) (s : State) : State :=
  match b with
  | .unbound => s
  | .door number sect => s.setDoor t (Door.initial number sect)
  | .bar outlet => s.setSlot t { outlet, quote := none, waiting := none }
  | .gateFirst n => s.setLane n { s.lane n with first := some t }
  | .gateSecond n => s.setLane n { s.lane n with second := some t }

/-- The terminal is bound again (R155). That a line in SLOW stays in SLOW when a gate is bound to a lane with a passage in
flight, which R168 does not list among the causes of its return, is the model's choice (log 44). -/
def rebind (t : TermId) (b : Binding) (s : State) : State :=
  makeBinding t b
    ((unbind t (s.term t).binding s).setTerm t { s.term t with binding := b, kindSeen := none })

/-- TERM-BIND (R154, R155). -/
def serveTermBind (b : Body TermBindReq) (s : State) : Answer :=
  orFormat b s fun q =>
    if validTerm q.term = false then refuse s .range
    else
      match boundTo q.binding with
      | none => refuse s .range
      | some v =>
        if (s.term q.term).online ≠ .disabled then refuse s .busy
        else
          match bindRefusal q.term v s with
          | some c => refuse s c
          | none => { state := rebind q.term v s, status := .ok, body := v.fields }

/-- A terminal as TERM-ENABLE makes it PROBING (R155). -/
def Terminal.enabledNow (r : Terminal) : Terminal :=
  { binding := r.binding, enabled := true, online := .probing, kindSeen := none, misses := 0, toggle := none
    outstanding := none, eventToggle := none, more := false, probeDue := none }

/-- TERM-ENABLE (R155). -/
def serveTermEnable (b : Body TermId) (s : State) : Answer :=
  orFormat b s fun t =>
    if validTerm t = false then refuse s .range
    else if (s.line t.line).enabled = false then refuse s .wrongState
    else if (s.term t).online = .disabled then
      { state := wake t.line (s.setTerm t (s.term t).enabledNow), status := .ok, body := [.u1 OnlineState.probing.num] }
    else { state := s, status := .ok, body := [.u1 (s.term t).online.num] }

/-- The exchange in progress with a terminal is marked: its result will be discarded (R156). -/
def markStale (t : TermId) (s : State) : State :=
  match (s.line t.line).exchange with
  | none => s
  | some p => if p.addr = t.addr then s.setLine t.line { s.line t.line with exchange := some { p with stale := true } } else s

/-- A terminal is disabled (R156). -/
def disable (t : TermId) (s : State) : State :=
  leaveOnline t .disabled (markStale t (s.setTerm t { s.term t with enabled := false, probeDue := none }))

/-- TERM-DISABLE (R156). -/
def serveTermDisable (b : Body TermId) (s : State) : Answer :=
  orFormat b s fun t =>
    if validTerm t = false then refuse s .range
    else
      { state := if (s.term t).online = .disabled then s else disable t s
        status := .ok, body := [.u1 OnlineState.disabled.num] }

/-- TERM-READ (R157). -/
def serveTermRead (b : Body TermId) (s : State) : Answer :=
  orFormat b s fun t =>
    if validTerm t = false then refuse s .range
    else
      let r := s.term t
      { state := s, status := .ok
        body := r.binding.fields ++
          [.flag r.enabled, .u1 r.online.num, .code (r.kindSeen.map TermKind.num), .u1 r.misses, .flag r.more,
            .u1 (commandSlot r.outstanding), .u1 (s.line t.line).state.num] }

end Sys2Proof.Machine
end

