-- ==== Sys2Proof/Machine/FieldCommands.lean ====
section
/-! DEFINITION. The meanings of the field lines' commands. -/

namespace Sys2Proof.Machine

/-- FIELD_REPLY (R162). -/
def execFieldReply (line : Nat) (frame : List Byte) (s : State) : Host.Outcome State Fault Refusal :=
  live (fieldReply line frame) s

/-- REPLY_TIMEOUT (R162): a no-reply. -/
def execReplyTimeout (line : Nat) (s : State) : Host.Outcome State Fault Refusal :=
  live (exchangeMissed line .noReply) s

/-- REPLY_GAP_TIMEOUT (R162): a truncated reply. -/
def execReplyGapTimeout (line : Nat) (s : State) : Host.Outcome State Fault Refusal :=
  live (exchangeMissed line .truncated) s

/-- PROBE_DUE (R164). -/
def execProbeDue (term : TermId) (s : State) : Host.Outcome State Fault Refusal := live (probeFallsDue term) s

/-- SLOW_SWEEP (R168). -/
def execSlowSweep (line : Nat) (s : State) : Host.Outcome State Fault Refusal := live (slowSweep line) s

/-- LINE_BREAK (R169). -/
def execLineBreak (line : Nat) (s : State) : Host.Outcome State Fault Refusal := live (lineBreak line) s

/-- LINE_FAULT_CHECK (R169). -/
def execLineFaultCheck (line : Nat) (restored : Bool) (s : State) : Host.Outcome State Fault Refusal :=
  live (lineFaultCheck line restored) s

end Sys2Proof.Machine
end

