-- ==== Sys2Proof/Machine/JobCommands.lean ====
section
/-! DEFINITION. The meanings of the commands of the three jobs: events, acknowledgements, expiries, ticks and stop
inputs (log 5, 20). -/

namespace Sys2Proof.Machine

/-! ## Doors -/

/-- DOOR_PRESENT (R77). -/
def execDoorPresent (term : TermId) (serial : Serial) (s : State) : Host.Outcome State Fault Refusal :=
  live (eventFrom .door term (.present serial)) s

/-- DOOR_PRIVACY (R89). -/
def execDoorPrivacy (term : TermId) (on : Bool) (s : State) : Host.Outcome State Fault Refusal :=
  live (eventFrom .door term (.privacy on)) s

/-- DOOR_CONTACT (R90). -/
def execDoorContact (term : TermId) (isOpen : Bool) (s : State) : Host.Outcome State Fault Refusal :=
  live (eventFrom .door term (.contact isOpen)) s

/-- A command is an OPEN. -/
def Command.isOpen : Command → Bool
  | .openLock => true
  | _ => false

/-- A command is a SHOW. -/
def Command.isShow : Command → Bool
  | .show _ => true
  | _ => false

/-- A command is a RELEASE. -/
def Command.isRelease : Command → Bool
  | .release => true
  | _ => false

/-- A command is a REVOKE. -/
def Command.isRevoke : Command → Bool
  | .revoke => true
  | _ => false

/-- A command is a RESULT. -/
def Command.isResult : Command → Bool
  | .result _ => true
  | _ => false

/-- OPEN_ACK (R87). -/
def execOpenAck (term : TermId) (s : State) : Host.Outcome State Fault Refusal := live (ackOf Command.isOpen term) s

/-- SHOW_ACK (R159). -/
def execShowAck (term : TermId) (s : State) : Host.Outcome State Fault Refusal := live (ackOf Command.isShow term) s

/-- OVERRIDE_WINDOW_EXPIRY (R83). -/
def execOverrideWindowExpiry (term : TermId) (s : State) : Host.Outcome State Fault Refusal :=
  live (windowExpiry term) s

/-- HOLD_EXPIRY (R86). -/
def execHoldExpiry (term : TermId) (s : State) : Host.Outcome State Fault Refusal := live (holdExpiry term) s

/-- AJAR_EXPIRY (R92). -/
def execAjarExpiry (term : TermId) (s : State) : Host.Outcome State Fault Refusal := live (ajarExpiry term) s

/-- STREAK_QUIET_EXPIRY (R85). -/
def execStreakQuietExpiry (term : TermId) (s : State) : Host.Outcome State Fault Refusal := live (quietExpiry term) s

/-! ## Lanes -/

/-- GATE_PRESENT (R54, R55). -/
def execGatePresent (term : TermId) (serial : Serial) (s : State) : Host.Outcome State Fault Refusal :=
  live (eventFrom .gate term (.present serial)) s

/-- PACING_TICK (R58). -/
def execPacingTick (lane : Nat) (s : State) : Host.Outcome State Fault Refusal := live (pacingTick lane) s

/-- RELEASE_ACK (R59). -/
def execReleaseAck (term : TermId) (s : State) : Host.Outcome State Fault Refusal :=
  live (ackOf Command.isRelease term) s

/-- REVOKE_ACK (R63). -/
def execRevokeAck (term : TermId) (s : State) : Host.Outcome State Fault Refusal :=
  live (ackOf Command.isRevoke term) s

/-- GATE_PASSED (R60, R61, R68). -/
def execGatePassed (term : TermId) (s : State) : Host.Outcome State Fault Refusal :=
  live (eventFrom .gate term .passed) s

/-- FIRST_GATE_TIMEOUT (R62). -/
def execFirstGateTimeout (lane : Nat) (s : State) : Host.Outcome State Fault Refusal := live (gateTimeout lane .first) s

/-- SECOND_GATE_TIMEOUT (R62). -/
def execSecondGateTimeout (lane : Nat) (s : State) : Host.Outcome State Fault Refusal :=
  live (gateTimeout lane .second) s

/-- The debounced level of an input goes to a level, its pin with it; the level it has already is no change (R66). -/
def stopInputChange (i : StopInput) (asserted : Bool) (s : State) : State :=
  let s1 := s.withPins (s.pins.set i asserted)
  if s.stops.level i = asserted then s1 else stopChange i asserted s1

/-- STOP_INPUT_CHANGE (R66, R67). -/
def execStopInputChange (input : StopInput) (asserted : Bool) (s : State) : Host.Outcome State Fault Refusal :=
  live (stopInputChange input asserted) s

/-! ## Bars -/

/-- BAR_PURCHASE (R116). -/
def execBarPurchase (term : TermId) (serial : Serial) (lines : List OrderLine) (s : State) :
    Host.Outcome State Fault Refusal :=
  live (eventFrom .bar term (.purchase serial lines)) s

/-- BAR_KEY_CONFIRM (R128). -/
def execBarKeyConfirm (term : TermId) (s : State) : Host.Outcome State Fault Refusal :=
  live (eventFrom .bar term .keyConfirm) s

/-- BAR_KEY_CANCEL (R129). -/
def execBarKeyCancel (term : TermId) (s : State) : Host.Outcome State Fault Refusal :=
  live (eventFrom .bar term .keyCancel) s

/-- QUOTE_EXPIRY (R130). -/
def execQuoteExpiry (term : TermId) (s : State) : Host.Outcome State Fault Refusal := live (expireQuote term) s

/-- QUOTE_ACK (R114). -/
def execQuoteAck (term : TermId) (s : State) : Host.Outcome State Fault Refusal := live (ackOf Command.isQuote term) s

/-- RESULT_ACK (R114). -/
def execResultAck (term : TermId) (s : State) : Host.Outcome State Fault Refusal :=
  live (ackOf Command.isResult term) s

end Sys2Proof.Machine
end

