-- ==== Sys2Proof/Machine/Cards.lean ====
section
/-! DEFINITION. The card register: its seven requests (R12 to R23). -/

namespace Sys2Proof.Machine

/-! ## Ranges and parts of a record (R2) -/

/-- A serial has 4, 7 or 10 bytes (R2). -/
def validSerial (x : Serial) : Bool := x.length == 4 || x.length == 7 || x.length == 10

/-- 0 to 3 door numbers, each 1 to 9,999, without a repeat (R2). -/
def validDoors (ds : List Nat) : Bool :=
  decide (ds.length ≤ 3) && ds.all (fun n => 1 ≤ n && n ≤ 9999) && decide ds.Nodup

/-- Two minutes of the day (R2). -/
def validWindow (w : Window) : Bool := w.start ≤ 1439 && w.stop ≤ 1439

/-- A section (R2). -/
def validSect (n : Nat) : Bool := n ≤ 63

/-- A record as CARD-ISSUE begins it: ABOARD, without quote, passage, trip, conflict or drinks (R14). -/
def Card.fresh (kind : CardKind) (serial : Serial) : Card :=
  { status := .active, kind, serial, role := none, sect := none, window := none, doors := [], account := 0, adult := false
    package := .noPackage, drinkCap := 0, dailyCap := 0, drinksUsed := 0, drinksHeld := 0, presence := .aboard
    trip := 0, conflict := none, quote := none, passage := none }

/-- A serial joins the withdrawn list at its newest end; a full list first drops its oldest (R7). -/
def joinWithdrawn (x : Serial) (l : List Serial) : List Serial :=
  (if l.length < Limits.withdrawn then l else l.drop 1) ++ [x]

/-- A serial leaves the index (R6). -/
def dropIndexed (x : Serial) (ix : List (Serial × Nat)) : List (Serial × Nat) := ix.filter (fun p => p.1 != x)

/-- The checks that a card request makes of its record number, after FORMAT (R12). -/
def withCard (record : Nat) (s : State) (f : Card → Answer) : Answer :=
  if Limits.cards ≤ record then refuse s .range
  else
    match s.card? record with
    | none => refuse s .notFound
    | some c => f c

/-! ## CARD-ISSUE (R13, R14) -/

/-- The request carries every field that the kind, and for CREW the role, holds; of a kind that is none of the three
nothing more is asked (R13, check 1; log 10). -/
def issueShaped (q : CardIssueReq) : Bool :=
  match CardKind.ofNum q.kind with
  | some .guest =>
    q.doors.isSome && q.account.isSome && q.adult.isSome && q.package.isSome && q.drinkCap.isSome && q.dailyCap.isSome
  | some .crew =>
    q.role.isSome && q.doors.isSome &&
      (if q.role = some Role.attendant.num then q.sect.isSome && q.window.isSome else true)
  | _ => true

/-- The GUEST record a request describes, where every field is in range (R2, R13). -/
def issuedGuest (q : CardIssueReq) : Option Card :=
  match q.doors, q.account, q.adult.bind yesNo, q.package.bind Package.ofNum, q.drinkCap, q.dailyCap with
  | some doors, some account, some adult, some package, some drinkCap, some dailyCap =>
    if validDoors doors && decide (account ≤ Limits.accounts) && decide (0 ≤ drinkCap ∧ drinkCap ≤ 5000)
        && decide (dailyCap ≤ 30) then
      some { Card.fresh .guest q.serial with doors, account, adult, package, drinkCap := drinkCap.toNat, dailyCap }
    else none
  | _, _, _, _, _, _ => none

/-- The CREW record a request describes, where every field is in range; only an ATTENDANT holds a section and a window
(R2, R3, R13). -/
def issuedCrew (q : CardIssueReq) : Option Card :=
  match q.role.bind Role.ofNum, q.doors with
  | some .attendant, some doors =>
    match q.sect, q.window with
    | some sect, some window =>
      if validDoors doors && validSect sect && validWindow window then
        some { Card.fresh .crew q.serial with role := some .attendant, sect := some sect, window := some window, doors }
      else none
    | _, _ => none
  | some role, some doors => if validDoors doors then some { Card.fresh .crew q.serial with role := some role, doors } else none
  | _, _ => none

/-- The record a request describes; none where a value is out of range (R13, check 2). -/
def issuedCard (q : CardIssueReq) : Option Card :=
  if validSerial q.serial then
    match CardKind.ofNum q.kind with
    | none => none
    | some .guest => issuedGuest q
    | some .crew => issuedCrew q
    | some .master => some (Card.fresh .master q.serial)
  else none

/-- The record n is written and indexed, its serial is off the withdrawn list, and a counted record is ABOARD (R14). -/
def issueCard (n : Nat) (c : Card) (s : State) : State :=
  let s1 := s.withRegister
    { cards := s.register.cards.insert n c
      index := s.register.index ++ [(c.serial, n)]
      withdrawn := s.register.withdrawn.filter (· != c.serial) }
  if c.counted then s1.withPresence { s1.presence with aboard := s1.presence.aboard + 1 } else s1

/-- CARD-ISSUE (R13, R14). -/
def serveCardIssue (b : Body CardIssueReq) (s : State) : Answer :=
  orFormat b s fun q =>
    if issueShaped q = false then refuse s .format
    else
      match issuedCard q with
      | none => refuse s .range
      | some c =>
        if c.account ≠ 0 ∧ (s.account? c.account).isNone then refuse s .notFound
        else if (s.indexed c.serial).isSome then refuse s .alreadyExists
        else
          let n := s.register.cards.lowestFree Limits.cards 0
          if Limits.cards ≤ n then refuse s .full
          else { state := issueCard n c s, status := .ok, body := [.num (some n)] }

/-! ## Work in flight (R16) -/

/-- A card's quote is voided and its waiting passage cancelled, with a reason (R16). -/
def stopWork (record : Nat) (reason : Code) (s : State) : State :=
  let s1 := voidQuote record reason s
  match (s1.card? record).bind (·.passage) with
  | some lane => cancelWaiting lane reason s1
  | none => s1

/-! ## CARD-REISSUE (R15) -/

/-- The register's part of a reissue, in the order of R8. -/
def swapSerial (record : Nat) (c : Card) (serial : Serial) (r : Register) : Register :=
  { cards := r.cards.insert record { c with serial }
    index := dropIndexed c.serial r.index ++ [(serial, record)]
    withdrawn := joinWithdrawn c.serial (r.withdrawn.filter (· != serial)) }

/-- CARD-REISSUE (R15). -/
def serveCardReissue (b : Body CardReissueReq) (s : State) : Answer :=
  orFormat b s fun q =>
    if validSerial q.serial = false then refuse s .range
    else
      withCard q.record s fun c =>
        if (s.indexed q.serial).isSome then refuse s .alreadyExists
        else
          { state := stopWork q.record .reissued (s.withRegister (swapSerial q.record c q.serial s.register))
            status := .ok, body := [.num (some q.record), .serial q.serial] }

/-! ## CARD-STATUS (R17) -/

/-- The reason passed to R16 for a status written, none for ACTIVE. -/
def CardStatus.reason : CardStatus → Option Code
  | .active => none | .suspended => some .suspended | .lost => some .lost

/-- CARD-STATUS (R17). -/
def serveCardStatus (b : Body CardStatusReq) (s : State) : Answer :=
  orFormat b s fun q =>
    match CardStatus.ofNum q.status with
    | none => refuse s .range
    | some v =>
      withCard q.record s fun c =>
        let s1 := s.setCard q.record { c with status := v }
        { state := (match v.reason with | none => s1 | some r => stopWork q.record r s1)
          status := .ok, body := [.u1 v.num] }

/-! ## Reading a record (R22) -/

/-- A window's two minutes. -/
def windowFields : Option Window → List Field
  | some w => [.u2 w.start, .u2 w.stop]
  | none => [.absent 2, .absent 2]

/-- The doors list of a record that holds one. -/
def doorsFields (ds : List Nat) : List Field := .u1 ds.length :: ds.map (fun n => .num (some n))

/-- A record's account and drinks, held by a GUEST alone (R2). -/
def Card.guestFields (c : Card) : List Field :=
  if c.kind = .guest then
    [.num (some c.account), .flag c.adult, .code (some c.package.num), .money c.drinkCap, .u1 c.dailyCap, .u1 c.drinksUsed,
      .u1 c.drinksHeld]
  else [.num none, .absent 1, .code none, .absent 4, .absent 1, .absent 1, .absent 1]

/-- A record's presence, held by a counted record (R2, R4). -/
def Card.presenceFields (c : Card) : List Field :=
  if c.counted then [.code (some c.presence.num), .trip c.trip, .code (some (conflictNum c.conflict))]
  else [.code none, .trip 0, .code none]

/-- A non-VACANT record as read: the fields of R2 in its order, those it does not hold marked absent (R22; log 9, 11). -/
def Card.fields (c : Card) : List Field :=
  [.u1 c.status.num, .u1 c.kind.num, .serial c.serial, .code (c.role.map Role.num), .code c.sect]
    ++ windowFields c.window
    ++ (if c.counted then doorsFields c.doors else [.absent 1])
    ++ c.guestFields ++ c.presenceFields ++ [.term c.quote, .code c.passage]

/-- CARD-READ (R22). -/
def serveCardRead (b : Body Nat) (s : State) : Answer :=
  orFormat b s fun n =>
    if Limits.cards ≤ n then refuse s .range
    else
      { state := s, status := .ok
        body := match s.card? n with | none => [.u1 0] | some c => c.fields }

/-- CARD-FIND (R23). -/
def serveCardFind (b : Body Serial) (s : State) : Answer :=
  orFormat b s fun x =>
    if validSerial x = false then refuse s .range
    else
      match s.indexed x with
      | some n =>
        { state := s, status := .ok
          body := [.num (some n), .u1 (match s.card? n with | some c => c.status.num | none => 0)] }
      | none => { state := s, status := .notFound, body := [.flag (s.register.withdrawn.contains x)] }

/-! ## CARD-SET (R18, R19) -/

/-- The role of a record after a CARD-SET; only CREW holds one (R18). -/
def roleAfter (q : CardSetReq) (c : Card) : Option Role :=
  match q.role with
  | some v => Role.ofNum v
  | none => c.role

/-- The present fields that the record holds: every other is ignored, and so is a section or window where the role
after the request is not ATTENDANT (R2, R18). -/
def heldFields (q : CardSetReq) (c : Card) : CardSetReq :=
  match c.kind with
  | .master =>
    { record := q.record, role := none, sect := none, window := none, doors := none, account := none, adult := none
      package := none, drinkCap := none, dailyCap := none }
  | .guest => { q with role := none, sect := none, window := none }
  | .crew =>
    { q with
      sect := if roleAfter q c = some .attendant then q.sect else none
      window := if roleAfter q c = some .attendant then q.window else none
      account := none, adult := none, package := none, drinkCap := none, dailyCap := none }

/-- A present value passes the test; an absent one has nothing to pass. -/
def presentAll {α : Type} (v : Option α) (f : α → Bool) : Bool :=
  match v with
  | none => true
  | some x => f x

/-- The present, held fields are in range (R18, check 2). -/
def setInRange (q : CardSetReq) : Bool :=
  presentAll q.role (fun v => (Role.ofNum v).isSome) && presentAll q.sect validSect && presentAll q.window validWindow
    && presentAll q.doors validDoors && presentAll q.account (fun v => decide (v ≤ Limits.accounts))
    && presentAll q.adult (fun v => (yesNo v).isSome) && presentAll q.package (fun v => (Package.ofNum v).isSome)
    && presentAll q.drinkCap (fun v => decide (0 ≤ v ∧ v ≤ 5000)) && presentAll q.dailyCap (fun v => decide (v ≤ 30))

/-- The role is set to ATTENDANT on a record of another role without both section and window (R18, check 4). -/
def lacksShift (q : CardSetReq) (c : Card) : Bool :=
  q.role == some Role.attendant.num && c.role != some .attendant && !(q.sect.isSome && q.window.isSome)

/-- A present value differs from the one stored. -/
def differs {α : Type} [DecidableEq α] (v : Option α) (stored : α) : Bool := presentAll v (fun x => decide (x ≠ stored)) && v.isSome

/-- A field that a quote was reserved from would change (R18, check 6). -/
def changesGuarded (q : CardSetReq) (c : Card) : Bool :=
  differs q.account c.account || differs (q.adult.bind yesNo) c.adult || differs (q.package.bind Package.ofNum) c.package
    || differs q.drinkCap c.drinkCap || differs q.dailyCap c.dailyCap

/-- The record with the present fields written; a role other than ATTENDANT drops section and window, and the daily cap
is stored as at least drinks used plus drinks held (R3, R19). -/
def writeSet (q : CardSetReq) (c : Card) : Card :=
  { c with
    role := roleAfter q c
    sect := if roleAfter q c = some .attendant then q.sect.or c.sect else none
    window := if roleAfter q c = some .attendant then q.window.or c.window else none
    doors := q.doors.getD c.doors
    account := q.account.getD c.account
    adult := (q.adult.bind yesNo).getD c.adult
    package := (q.package.bind Package.ofNum).getD c.package
    drinkCap := (q.drinkCap.map Int.toNat).getD c.drinkCap
    dailyCap := match q.dailyCap with | none => c.dailyCap | some v => max v (c.drinksUsed + c.drinksHeld) }

/-- CARD-SET (R18, R19; log 37). -/
def serveCardSet (b : Body CardSetReq) (s : State) : Answer :=
  orFormat b s fun full =>
    withCard full.record s fun c =>
      let q := heldFields full c
      if setInRange q = false then refuse s .range
      else if lacksShift q c then refuse s .format
      else if presentAll q.account (fun v => v == 0 || (s.account? v).isSome) = false then refuse s .notFound
      else if c.quote.isSome && changesGuarded q c then refuse s .busy
      else
        { state := s.setCard full.record (writeSet q c), status := .ok, body := (writeSet q c).fields }

/-! ## CARD-VACATE (R20, R21) -/

/-- A counted record leaves the tallies, the conflict count, the left-behind list and its manifest (R21, step 1). -/
def uncount (record : Nat) (c : Card) (s : State) : State :=
  let conflicts := if c.conflict.isSome then s.presence.conflicts - 1 else s.presence.conflicts
  match c.presence with
  | .aboard => s.withPresence { s.presence with aboard := s.presence.aboard - 1, conflicts }
  | .ashore =>
    markReturned c.trip record true
      (s.withPresence
        { s.presence with
          ashore := s.presence.ashore - 1, conflicts, leftBehind := s.presence.leftBehind.filter (· != record) })

/-- The register's part of a vacate (R21, steps 2 and 3). -/
def dropCard (record : Nat) (c : Card) (r : Register) : Register :=
  { cards := r.cards.erase record
    index := dropIndexed c.serial r.index
    withdrawn := joinWithdrawn c.serial r.withdrawn }

/-- CARD-VACATE (R20, R21). -/
def serveCardVacate (b : Body Nat) (s : State) : Answer :=
  orFormat b s fun n =>
    withCard n s fun c =>
      if c.quote.isSome ∨ c.passage.isSome then refuse s .busy
      else if c.counted ∧ c.presence = .ashore ∧ s.presence.call ≠ .sailing then refuse s .ashore
      else
        let s1 := if c.counted then uncount n c s else s
        { state := s1.withRegister (dropCard n c s1.register), status := .ok, body := [.num (some n)] }

end Sys2Proof.Machine
end

