-- ==== Sys2Proof/Machine/Operands.lean ====
section
/-! DEFINITION. The operands of a request as they arrive on the wire: from a kind code and the bytes of a body to the
request and its fields, by the types and widths of R198. A body that does not have the widths of its kind, or has bytes
over, has no fields (FORMAT). -/

namespace Sys2Proof.Machine

/-! ## Fields of fixed width -/

/-- The unsigned fields of the given widths that make up the whole of some bytes; none where they do not. -/
def wireFields : List Nat → List Byte → Option (List Nat)
  | [], [] => some []
  | [], _ :: _ => none
  | w :: ws, bs =>
    if bs.length < w then none else (wireFields ws (bs.drop w)).map (fun ns => leNat (bs.take w) :: ns)

/-- The serial in the first eleven bytes; a length other than 4, 7 or 10 gives the empty serial, which is out of range
in every request (R198). -/
def wireSerial (bs : List Byte) : Serial := (serialField (bs.take 11)).getD []

/-- A body read by f. -/
def wireBody {α : Type} (bs : List Byte) (f : List Byte → Option α) : Body α := { length := bs.length, fields := f bs }

/-- A body with no fields. -/
def wireEmpty (bs : List Byte) : Body Unit := wireBody bs (fun x => if x = [] then some () else none)

/-- A body of one field of width w. -/
def wireOne (w : Nat) (bs : List Byte) : Body Nat :=
  wireBody bs fun x => match wireFields [w] x with | some [a] => some a | _ => none

/-- A body of one terminal. -/
def wireTerm (bs : List Byte) : Body TermId :=
  wireBody bs fun x => match wireFields [1, 1] x with | some [l, a] => some { line := l, addr := a } | _ => none

/-- Two-byte numbers, in order. -/
def wirePairs : List Byte → List Nat
  | a :: b :: rest => leNat [a, b] :: wirePairs rest
  | _ => []

/-- A list of door numbers, a count and then the entries, with the bytes behind it. -/
def wireDoors : List Byte → Option (List Nat × List Byte)
  | [] => none
  | n :: bs => if bs.length < 2 * n.toNat then none else some (wirePairs (bs.take (2 * n.toNat)), bs.drop (2 * n.toNat))

/-! ## The bodies that vary by kind (log 10) -/

/-- A CARD-ISSUE with no field beyond kind and serial. -/
def bareIssue (kind : Nat) (serial : Serial) : CardIssueReq :=
  { kind, serial, role := none, sect := none, window := none, doors := none, account := none, adult := none
    package := none, drinkCap := none, dailyCap := none }

/-- The rest of a GUEST's CARD-ISSUE: doors, account, adult, package, per-drink cap, daily cap (R13). -/
def wireIssueGuest (q : CardIssueReq) (bs : List Byte) : Option CardIssueReq :=
  match wireDoors bs with
  | none => none
  | some (doors, rest) =>
    match wireFields [2, 1, 1, 4, 1] rest with
    | some [account, adult, package, drinkCap, dailyCap] =>
      some { q with
        doors := some doors, account := some account, adult := some adult, package := some package
        drinkCap := some (moneyOf drinkCap), dailyCap := some dailyCap }
    | _ => none

/-- The doors list that ends a CREW's CARD-ISSUE (R13). -/
def wireIssueDoors (q : CardIssueReq) (bs : List Byte) : Option CardIssueReq :=
  match wireDoors bs with
  | some (doors, []) => some { q with doors := some doors }
  | _ => none

/-- The rest of a CREW's CARD-ISSUE: role, for ATTENDANT section and window, then doors (R13). A role that is none of
the three is out of range whatever follows. -/
def wireIssueCrew (q : CardIssueReq) : List Byte → Option CardIssueReq
  | [] => none
  | r :: bs =>
    if r = 1 then
      match wireFields [1, 2, 2] (bs.take 5) with
      | some [sect, start, stop] =>
        wireIssueDoors { q with role := some 1, sect := some sect, window := some { start, stop } } (bs.drop 5)
      | _ => none
    else if r = 2 ∨ r = 3 then wireIssueDoors { q with role := some r.toNat } bs
    else some { q with role := some r.toNat, doors := some [] }

/-- CARD-ISSUE: kind, serial, then the fields the kind holds (R13). -/
def wireIssue : List Byte → Option CardIssueReq
  | [] => none
  | k :: bs =>
    if bs.length < 11 then none
    else
      let q := bareIssue k.toNat (wireSerial bs)
      if k = 1 then wireIssueGuest q (bs.drop 11)
      else if k = 2 then wireIssueCrew q (bs.drop 11)
      else if k = 3 then if bs.length = 11 then some q else none
      else some q

/-- TERM-BIND: line, address, binding, then the door and section, the outlet or the lane (R154). -/
def wireBind : List Byte → Option TermBindReq
  | l :: a :: k :: bs =>
    let t : TermId := { line := l.toNat, addr := a.toNat }
    if k = 0 then if bs = [] then some { term := t, binding := .unbound } else none
    else if k = 1 then
      match wireFields [2, 1] bs with
      | some [number, sect] => some { term := t, binding := .door number sect }
      | _ => none
    else if k = 2 then
      match bs with | [o] => some { term := t, binding := .bar o.toNat } | _ => none
    else if k = 3 then
      match bs with | [n] => some { term := t, binding := .gateFirst n.toNat } | _ => none
    else if k = 4 then
      match bs with | [n] => some { term := t, binding := .gateSecond n.toNat } | _ => none
    else some { term := t, binding := .unassigned k.toNat }
  | _ => none

/-! ## The bodies whose fields may be absent (log 8) -/

/-- A code or number that is absent as n (R198). -/
def unlessAbsent (n v : Nat) : Option Nat := if v = n then none else some v

/-- A field without an absent encoding: a value of its range is that value; of any other the mark is open (R198; log 8). -/
def openField {α : Type} (f : Config.OpenField) (bs : List Byte) (inRange : Bool) (v : α) : Option α :=
  if !inRange && Config.absentMark f bs then none else some v

/-- The doors list of a CARD-SET with the bytes behind it; a count above 3 is of no list in range (R2; log 8). -/
def wireOpenDoors : List Byte → Option (Option (List Nat) × List Byte)
  | [] => none
  | n :: bs =>
    if 3 < n.toNat && Config.absentMark .doors [n] then some (none, bs)
    else (wireDoors (n :: bs)).map (fun p => (some p.1, p.2))

/-- CARD-SET: the record, then its nine fields, each in its width (R18, R198; log 8). -/
def wireCardSet (bs : List Byte) : Option CardSetReq :=
  match wireFields [2, 1, 1, 2, 2] (bs.take 8), wireOpenDoors (bs.drop 8) with
  | some [record, role, sect, start, stop], some (doors, rest) =>
    match wireFields [2, 1, 1, 4, 1] rest with
    | some [account, adult, package, cap, daily] =>
      some
        { record, role := unlessAbsent 0xFF role, sect := unlessAbsent 0xFF sect
          window := openField .window ((bs.drop 4).take 4) (decide (start ≤ 1439 ∧ stop ≤ 1439)) { start, stop }
          doors, account := unlessAbsent 0xFFFF account
          adult := openField .adult ((rest.drop 2).take 1) (decide (adult ≤ 1)) adult
          package := unlessAbsent 0xFF package
          drinkCap :=
            openField .drinkCap ((rest.drop 4).take 4) (decide (0 ≤ moneyOf cap ∧ moneyOf cap ≤ 5000)) (moneyOf cap)
          dailyCap := openField .dailyCap (rest.drop 8) (decide (daily ≤ 30)) daily }
    | _ => none
  | _, _ => none

/-- ACCOUNT-SET: the account, then its four fields, each in its width (R101, R198; log 8). -/
def wireAccountSet (bs : List Byte) : Option AccountSetReq :=
  match wireFields [2, 4, 4, 4, 2] bs with
  | some [account, balance, limit, allowance, discount] =>
    let field := fun (k : Nat) => (bs.drop k).take 4
    some
      { account
        balance := openField .balance (field 2)
          (decide (-10000000 ≤ moneyOf balance ∧ moneyOf balance ≤ 100000000)) (moneyOf balance)
        limit := openField .limit (field 6) (decide (0 ≤ moneyOf limit ∧ moneyOf limit ≤ 100000000)) (moneyOf limit)
        allowance := openField .allowance (field 10)
          (decide (0 ≤ moneyOf allowance ∧ moneyOf allowance ≤ 5000000)) (moneyOf allowance)
        discount := openField .discount (bs.drop 14) (decide (discount ≤ 5000)) discount }
  | _ => none

/-! ## The requests with several fields -/

def wireReissue (bs : List Byte) : Option CardReissueReq :=
  match wireFields [2, 11] bs with
  | some (record :: _) => some { record, serial := wireSerial (bs.drop 2) }
  | _ => none

def wireFind (bs : List Byte) : Option Serial := if bs.length = 11 then some (wireSerial bs) else none

def wireStatus (bs : List Byte) : Option CardStatusReq :=
  match wireFields [2, 1] bs with | some [record, status] => some { record, status } | _ => none

def wirePresence (bs : List Byte) : Option PresenceSetReq :=
  match wireFields [2, 1] bs with | some [record, presence] => some { record, presence } | _ => none

def wireTripOpen (bs : List Byte) : Option TripOpenReq :=
  match wireFields [1, 1, 1, 1] bs with
  | some [trip, boat, capacity, lane] => some { trip, boat, capacity, lane }
  | _ => none

def wireTripRead (bs : List Byte) : Option TripReadReq :=
  match wireFields [1, 1] bs with | some [trip, start] => some { trip, start } | _ => none

def wireLaneSet (bs : List Byte) : Option LaneSetReq :=
  match wireFields [1, 1, 1, 1, 2, 1, 1, 1] bs with
  | some [lane, direction, chain, tripRequired, pacing, firstTimeout, secondTimeout, stopLinked] =>
    some { lane, direction, chain, tripRequired, pacing, firstTimeout, secondTimeout, stopLinked }
  | _ => none

def wireDoorConfig (bs : List Byte) : Option DoorConfigReq :=
  match wireFields [1, 1, 2, 2, 1, 1, 1, 1] bs with
  | some [overrideWindow, streakThreshold, holdTime, ajarTime, lowTrip, critTrip, hysteresis, filterCount] =>
    some { overrideWindow, streakThreshold, holdTime, ajarTime, lowTrip, critTrip, hysteresis, filterCount }
  | _ => none

def wireItemSet (bs : List Byte) : Option ItemSetReq :=
  match wireFields [2, 4, 1, 1, 1] bs with
  | some [item, price, category, adultOnly, state] =>
    some { item, price := moneyOf price, category, adultOnly, state }
  | _ => none

def wireOutletSet (bs : List Byte) : Option OutletSetReq :=
  match wireFields [1, 2, 4, 1, 2] bs with
  | some [outlet, rate, ceiling, honoured, timeout] =>
    some { outlet, rate, ceiling := moneyOf ceiling, honoured, timeout }
  | _ => none

def wireLineSet (bs : List Byte) : Option LineSetReq :=
  match wireFields [1, 1, 1, 1] bs with
  | some [line, rate, enabled, slowPermitted] => some { line, rate, enabled, slowPermitted }
  | _ => none

def wireLineRead (bs : List Byte) : Option LineReadReq :=
  match wireFields [1, 1] bs with | some [line, clear] => some { line, clear } | _ => none

def wireNoticeLevel (bs : List Byte) : Option NoticeLevelReq :=
  match wireFields [1, 1] bs with | some [cls, level] => some { cls, level } | _ => none

def wireClockSet (bs : List Byte) : Option ClockSetReq :=
  match wireFields [2, 3] bs with | some [day, sec] => some { day, sec } | _ => none

/-! ## The request of a frame -/

/-- Kinds 10h to 2Ah: the card and presence requests. -/
def wireCardRequest (kind : Nat) (bs : List Byte) : Option Request :=
  match kind with
  | 0x10 => some (.cardIssue (wireBody bs wireIssue))
  | 0x11 => some (.cardReissue (wireBody bs wireReissue))
  | 0x12 => some (.cardStatus (wireBody bs wireStatus))
  | 0x13 => some (.cardSet (wireBody bs wireCardSet))
  | 0x14 => some (.cardVacate (wireOne 2 bs))
  | 0x15 => some (.cardRead (wireOne 2 bs))
  | 0x16 => some (.cardFind (wireBody bs wireFind))
  | 0x20 => some (.presenceSet (wireBody bs wirePresence))
  | 0x21 => some (.conflictClear (wireOne 2 bs))
  | 0x22 => some (.countRead (wireEmpty bs))
  | 0x23 => some (.tripOpen (wireBody bs wireTripOpen))
  | 0x24 => some (.tripCastoff (wireOne 1 bs))
  | 0x25 => some (.tripClear (wireOne 1 bs))
  | 0x26 => some (.tripRead (wireBody bs wireTripRead))
  | 0x27 => some (.callSet (wireOne 1 bs))
  | 0x28 => some (.sail (wireOne 1 bs))
  | 0x29 => some (.arrive (wireEmpty bs))
  | 0x2A => some (.leftRead (wireOne 2 bs))
  | _ => none

/-- Kinds 30h to 51h: the lane, door, tariff and posting requests. -/
def wireJobRequest (kind : Nat) (bs : List Byte) : Option Request :=
  match kind with
  | 0x30 => some (.laneSet (wireBody bs wireLaneSet))
  | 0x31 => some (.laneRead (wireOne 1 bs))
  | 0x38 => some (.doorConfig (wireBody bs wireDoorConfig))
  | 0x39 => some (.doorRead (wireOne 2 bs))
  | 0x3A => some (.doorOpen (wireOne 2 bs))
  | 0x40 => some (.accountSet (wireBody bs wireAccountSet))
  | 0x41 => some (.accountClose (wireOne 2 bs))
  | 0x42 => some (.accountRead (wireOne 2 bs))
  | 0x43 => some (.itemSet (wireBody bs wireItemSet))
  | 0x44 => some (.itemRead (wireOne 2 bs))
  | 0x45 => some (.outletSet (wireBody bs wireOutletSet))
  | 0x46 => some (.outletRead (wireOne 1 bs))
  | 0x47 => some (.dayRoll (wireEmpty bs))
  | 0x50 => some (.chargeRead (wireOne 4 bs))
  | 0x51 => some (.chargePosted (wireOne 4 bs))
  | _ => none

/-- Kinds 58h to 6Ch: the line, terminal, log and part requests. -/
def wirePartRequest (kind : Nat) (bs : List Byte) : Option Request :=
  match kind with
  | 0x58 => some (.lineSet (wireBody bs wireLineSet))
  | 0x59 => some (.lineRead (wireBody bs wireLineRead))
  | 0x5A => some (.termBind (wireBody bs wireBind))
  | 0x5B => some (.termEnable (wireTerm bs))
  | 0x5C => some (.termDisable (wireTerm bs))
  | 0x5D => some (.termRead (wireTerm bs))
  | 0x60 => some (.logMode (wireOne 1 bs))
  | 0x61 => some (.logRead (wireEmpty bs))
  | 0x68 => some (.noticeLevel (wireBody bs wireNoticeLevel))
  | 0x69 => some (.clockSet (wireBody bs wireClockSet))
  | 0x6A => some (.partStatus (wireOne 1 bs))
  | 0x6B => some (.partClear (wireEmpty bs))
  | 0x6C => some (.partReset (wireEmpty bs))
  | _ => none

/-- The request of a good frame by its kind code (R177, R198). -/
def wireRequest (kind : Nat) (bs : List Byte) : Request :=
  match wireCardRequest kind bs with
  | some r => r
  | none =>
    match wireJobRequest kind bs with
    | some r => r
    | none =>
      match wirePartRequest kind bs with
      | some r => r
      | none => .unknownKind kind bs.length

end Sys2Proof.Machine
end

