-- ==== Sys2Proof/Machine/Part.lean ====
section
/-! DEFINITION. The requests that concern the part as a whole: the audit log (R193, R194), the notice levels (R181), the
ship clock (R184), status, loss flags and reset (R185 to R187). -/

namespace Sys2Proof.Machine

/-! ## The audit log -/

/-- LOG-MODE (R193). -/
def serveLogMode (b : Body Nat) (s : State) : Answer :=
  orFormat b s fun v =>
    match LogMode.ofNum v with
    | none => refuse s .range
    | some mode =>
      { state := s.withLog { s.log with mode }, status := .ok
        body := [.u1 mode.num, .u2 s.log.entries.length, .u2 s.log.dropped, .u2 s.log.overwritten] }

/-- A detail item as read: tag and value; an absent one has tag 0, and R200 states no value for it (log 9). -/
def detailFields : Option Detail → List Field
  | none => [.u1 0, .absent 4]
  | some d => [.u1 d.tagValue.1, .ms (some d.tagValue.2)]

/-- An entry as read, in 21 bytes (R200). -/
def LogEntry.fields (e : LogEntry) : List Field :=
  [.time e.time, .u1 e.kind.num, .term e.term, .num e.record, .code (e.outcome.map EntryOutcome.num)]
    ++ detailFields e.details[0]? ++ detailFields e.details[1]?

/-- The log after a LOG-READ: the entries returned removed, the counts 0, the fill state brought up to date (R194,
R195). -/
def AuditLog.readOff (l : AuditLog) : AuditLog :=
  let left := l.entries.drop Limits.entriesPerReply
  { l with entries := left, dropped := 0, overwritten := 0, fired := l.fired && decide (Limits.logArm ≤ left.length) }

/-- LOG-READ (R194). -/
def serveLogRead (b : Body Unit) (s : State) : Answer :=
  orFormat b s fun _ =>
    let es := s.log.entries.take Limits.entriesPerReply
    { state := s.withLog s.log.readOff, status := .ok
      body := [.u1 es.length, .u2 s.log.readOff.entries.length, .u1 s.log.mode.num, .u2 s.log.dropped,
          .u2 s.log.overwritten] ++ es.flatMap LogEntry.fields }

/-! ## Notice levels -/

/-- The eight levels, by class (R181). -/
def NoticeLevels.fields (l : NoticeLevels) : List Field :=
  [.u1 l.access, .u1 l.presence, .u1 l.part, .u1 l.passage, .u1 l.terminal, .u1 l.card, .u1 l.platform, .u1 l.charge]

/-- NOTICE-LEVEL (R181). -/
def serveNoticeLevel (b : Body NoticeLevelReq) (s : State) : Answer :=
  orFormat b s fun q =>
    match NoticeClass.ofNum q.cls with
    | none => refuse s .range
    | some c =>
      if 3 < q.level then refuse s .range
      else
        let levels := s.notices.levels.set c q.level
        { state := s.withNotices { s.notices with levels }, status := .ok, body := levels.fields }

/-! ## The ship clock -/

/-- CLOCK-SET (R184). -/
def serveClockSet (b : Body ClockSetReq) (s : State) : Answer :=
  orFormat b s fun q =>
    if 86399 < q.sec then refuse s .range
    else
      let t : ShipTime := { day := q.day, sec := q.sec }
      { state := s.withClock (some t), status := .ok, body := [.time (some t)] }

/-- One second later: midnight raises the day, and day 65,535 is followed by day 0 (R184). -/
def ShipTime.next (t : ShipTime) : ShipTime :=
  if t.sec < 86399 then { t with sec := t.sec + 1 }
  else { day := if t.day < 65535 then t.day + 1 else 0, sec := 0 }

/-- A second of the time base: a set clock advances, an UNSET one stays UNSET (R184). -/
def clockSecond (s : State) : State := s.withClock (s.clock.map ShipTime.next)

/-! ## Status, loss flags and reset -/

/-- The fill: the bytes the inbound buffer holds (R174). -/
def Link.fill (l : Link) : Nat := l.rxBytes.length + (l.frames.map (·.size)).sum

/-- The part code (R198). -/
def partCode : Nat := 0x4801

/-- The five loss flags, A to E. -/
def Groups.flags (g : Groups) : List Field := [.flag g.a, .flag g.b, .flag g.c, .flag g.d, .flag g.e]

/-- What PART-STATUS carries (R185); the width of the part code is the model's choice (log 11). -/
def statusFields (s : State) : List Field :=
  [.u2 partCode] ++ Groups.flags s.startup.loss ++
    [.u1 s.startup.kind.num, .u2 s.link.badCheck, .u2 s.link.overLength, .u2 s.link.gap, .u2 s.link.overrun,
      .u2 s.link.fill, .u1 s.link.flow.num, .flag s.link.hostPause, .u1 s.link.replies.length,
      .u1 s.notices.queue.length, .u2 s.notices.dropped, .time s.clock, .u2 s.presence.aboard, .u2 s.presence.ashore,
      .u2 s.presence.conflicts, .u2 s.posting.committed.length, .u2 s.posting.reserved, .u2 s.log.entries.length]

/-- The link with its counters at 0 (R185). -/
def Link.cleared (l : Link) : Link := { l with badCheck := 0, overLength := 0, gap := 0, overrun := 0 }

/-- PART-STATUS (R185). -/
def servePartStatus (b : Body Nat) (s : State) : Answer :=
  orFormat b s fun v =>
    match yesNo v with
    | none => refuse s .range
    | some clear =>
      { state := if clear then s.withLink s.link.cleared else s, status := .ok, body := statusFields s }

/-- No loss flag set. -/
def noGroups : Groups := { a := false, b := false, c := false, d := false, e := false }

/-- PART-CLEAR (R186). -/
def servePartClear (b : Body Unit) (s : State) : Answer :=
  orFormat b s fun _ =>
    { state := s.withStartup { s.startup with loss := noGroups }, status := .ok, body := Groups.flags s.startup.loss }

/-- PART-RESET (R187): from now on no request is handed over. -/
def servePartReset (b : Body Unit) (s : State) : Answer :=
  orFormat b s fun _ =>
    { state := s.withLink { s.link with resetWaiting := true }, status := .ok, body := [] }

end Sys2Proof.Machine
end

