-- ==== Sys2Proof/Machine/Link.lean ====
section
/-! DEFINITION. The host link: flow (R175, R176), service of requests (R177, R178), the receiver (R173, R174) and the
transmitter (R180, R183). -/

namespace Sys2Proof.Machine

/-! ## Flow (R175) -/

/-- The flow state after the fill is compared with the thresholds (R175). -/
def FlowState.compare (f : FlowState) (fill : Nat) : FlowState :=
  match f with
  | .flowOpen => if Limits.pauseFill ≤ fill then .pauseDue else .flowOpen
  | .pauseDue => if fill ≤ Limits.resumeFill then .flowOpen else .pauseDue
  | .paused => if fill ≤ Limits.resumeFill then .resumeDue else .paused
  | .resumeDue => if Limits.pauseFill ≤ fill then .paused else .resumeDue

/-- The link after its fill has moved (R175). -/
def Link.compared (l : Link) : Link := { l with flow := l.flow.compare l.fill }

/-! ## Service (R177, R178) -/

/-- A request checked and served by the block that owns what it concerns (R177). -/
def serveRequest (r : Request) (s : State) : Answer :=
  match r with
  | .cardIssue b => serveCardIssue b s
  | .cardReissue b => serveCardReissue b s
  | .cardStatus b => serveCardStatus b s
  | .cardSet b => serveCardSet b s
  | .cardVacate b => serveCardVacate b s
  | .cardRead b => serveCardRead b s
  | .cardFind b => serveCardFind b s
  | .presenceSet b => servePresenceSet b s
  | .conflictClear b => serveConflictClear b s
  | .countRead b => serveCountRead b s
  | .tripOpen b => serveTripOpen b s
  | .tripCastoff b => serveTripCastoff b s
  | .tripClear b => serveTripClear b s
  | .tripRead b => serveTripRead b s
  | .callSet b => serveCallSet b s
  | .sail b => serveSail b s
  | .arrive b => serveArrive b s
  | .leftRead b => serveLeftRead b s
  | .laneSet b => serveLaneSet b s
  | .laneRead b => serveLaneRead b s
  | .doorConfig b => serveDoorConfig b s
  | .doorRead b => serveDoorRead b s
  | .doorOpen b => serveDoorOpen b s
  | .accountSet b => serveAccountSet b s
  | .accountClose b => serveAccountClose b s
  | .accountRead b => serveAccountRead b s
  | .itemSet b => serveItemSet b s
  | .itemRead b => serveItemRead b s
  | .outletSet b => serveOutletSet b s
  | .outletRead b => serveOutletRead b s
  | .dayRoll b => serveDayRoll b s
  | .chargeRead b => serveChargeRead b s
  | .chargePosted b => serveChargePosted b s
  | .lineSet b => serveLineSet b s
  | .lineRead b => serveLineRead b s
  | .termBind b => serveTermBind b s
  | .termEnable b => serveTermEnable b s
  | .termDisable b => serveTermDisable b s
  | .termRead b => serveTermRead b s
  | .logMode b => serveLogMode b s
  | .logRead b => serveLogRead b s
  | .noticeLevel b => serveNoticeLevel b s
  | .clockSet b => serveClockSet b s
  | .partStatus b => servePartStatus b s
  | .partClear b => servePartClear b s
  | .partReset b => servePartReset b s
  | .unknownKind _ _ => refuse s .unknownKind

/-- A reply joins the reply queue at its newest end (R178). -/
def placeReply (r : Reply) (s : State) : State := s.withLink { s.link with replies := s.link.replies ++ [r] }

/-- The reply to a request that a block has answered (R177). -/
def replyTo (tag : Byte) (req : Request) (a : Answer) : Reply :=
  { kind := requestKind req, tag, status := a.status, body := a.body }

/-- Serves a request whole and places its reply (R177). -/
def answerRequest (tag : Byte) (req : Request) (s : State) : State :=
  placeReply (replyTo tag req (serveRequest req s)) (serveRequest req s).state

/-- The conditions of a handover, but for a request to hand over (R177): a place in the reply queue, and no PART-RESET
waiting. -/
def Link.mayServe (l : Link) : Bool := decide (l.replies.length < Limits.replies) && !l.resetWaiting

/-- The oldest of the requests that wait leaves the buffer and is served, and so on while the conditions hold (R177,
R178; log 3). -/
def handover : List HeldFrame → State → State
  | [], s => s
  | f :: fs, s =>
    if s.link.mayServe then
      handover fs (answerRequest f.tag f.req (s.withLink ({ s.link with frames := fs }).compared))
    else s

/-- Serves every request that may be served now. -/
def serveAll (s : State) : State := handover s.link.frames s

/-! ## Frames that arrive whole (log 2) -/

/-- A frame is dropped: its bytes leave, the receiver takes another state (R173, R174). -/
def Link.dropFrame (l : Link) (rx : RxState) : Link := ({ l with rx, rxBytes := [] }).compared

/-- A frame in the receiver is dropped by a byte that does not fit (R173, R174). -/
def overrun (s : State) : State :=
  let l := { s.link.dropFrame .waitIdle with overrun := bump s.link.overrun }
  raise .overrun [.u2 l.overrun] (s.withLink l)

/-- A frame is dropped for its length (R173). -/
def overLength (s : State) : State :=
  s.withLink { s.link.dropFrame .waitIdle with overLength := bump s.link.overLength }

/-- A frame of n bytes has arrived whole, and is one the buffer can hold: its bytes have been placed and the flow state
compared; else it is dropped for its length or by overrun, the fill having reached 2,048 (R173, R174, R175). -/
def receiveFrame (size : Nat) (f : State → State) (s : State) : State :=
  if Limits.bodyBytes + 7 < size then overLength s
  else if Limits.bufferBytes < s.link.fill + size then
    overrun (s.withLink { s.link with flow := s.link.flow.compare Limits.bufferBytes })
  else f (s.withLink { s.link with flow := s.link.flow.compare (s.link.fill + size) })

/-- A good request frame from the host, with its tag: it waits in the buffer for service, which may be at once (R174,
R177; log 2, 3). -/
def requestArrives (tag : Byte) (req : Request) (s : State) : State :=
  receiveFrame (requestLength req + 7)
    (fun x => serveAll (x.withLink
      { x.link with frames := x.link.frames ++ [{ size := requestLength req + 7, tag, req }] })) s

/-- A good PAUSE or RESUME frame from the host: taken, and its bytes leave (R174, R176). -/
def flowArrives (pause : Bool) (s : State) : State :=
  receiveFrame 7 (fun x => x.withLink ({ x.link with hostPause := pause }).compared) s

/-! ## The receiver, byte by byte (R173, R174) -/

/-- The length a frame's second and third byte give. -/
def frameLength (bs : List Byte) : Nat := leNat ((bs.drop 1).take 2)

/-- The bytes a frame's check covers: length, kind, tag and body. -/
def frameCovered (bs : List Byte) : List Byte := (bs.drop 1).take (frameLength bs + 4)

/-- The check at the end of a whole frame is right (R172). -/
def frameGood (bs : List Byte) : Bool := bs.drop (frameLength bs + 5) == crcBytes (frameCovered bs)

/-- The kind of a whole frame. -/
def frameKind (bs : List Byte) : Nat := leNat ((bs.drop 3).take 1)

/-- The tag of a whole frame. -/
def frameTag (bs : List Byte) : Byte := (bs.drop 4).headD 0

/-- The body of a whole frame. -/
def frameBody (bs : List Byte) : List Byte := (bs.drop 5).take (frameLength bs)

/-- A frame found good, all its bytes in the receiver: a flow frame is taken and its bytes leave, any other waits in the
buffer for service (R174, R176, R177). -/
def goodFrame (s : State) : State :=
  let bs := s.link.rxBytes
  if frameKind bs = kindPause ∨ frameKind bs = kindResume then
    s.withLink ({ s.link with rx := .hunting, rxBytes := [], hostPause := decide (frameKind bs = kindPause) }).compared
  else
    serveAll (s.withLink
      { s.link with
        rx := .hunting, rxBytes := []
        frames := s.link.frames ++
          [{ size := bs.length, tag := frameTag bs, req := wireRequest (frameKind bs) (frameBody bs) }] })

/-- The tests of a frame as far as it has come: its length at the second length byte, its check at the second check byte
(R173). -/
def testFrame (s : State) : State :=
  let bs := s.link.rxBytes
  if bs.length < 3 then s
  else if Limits.bodyBytes < frameLength bs then overLength s
  else if bs.length < frameLength bs + 7 then s
  else if frameGood bs then goodFrame s
  else s.withLink { s.link.dropFrame .waitIdle with badCheck := bump s.link.badCheck }

/-- A byte of a frame: placed in the buffer where it fits, with the flow state compared, and the frame tested (R173 to
R175). -/
def frameByte (b : Byte) (s : State) : State :=
  if Limits.bufferBytes ≤ s.link.fill then overrun s
  else testFrame (s.withLink ({ s.link with rx := .receiving, rxBytes := s.link.rxBytes ++ [b] }).compared)

/-- A byte from the host (R173, R174). -/
def receiveByte (b : Byte) (s : State) : State :=
  match s.link.rx with
  | .waitIdle => s
  | .hunting => if b = 0xA5 then frameByte b s else s
  | .receiving => frameByte b s

/-- 5 ms pass inside a frame: a gap (R173). -/
def gapTimeout (s : State) : State :=
  match s.link.rx with
  | .receiving => s.withLink { s.link.dropFrame .hunting with gap := bump s.link.gap }
  | .hunting | .waitIdle => s

/-- The line is idle for 5 ms in WAIT-IDLE (R173). -/
def idleTimeout (s : State) : State :=
  match s.link.rx with
  | .waitIdle => s.withLink { s.link with rx := .hunting }
  | .hunting | .receiving => s

/-! ## The transmitter (R180, R183) -/

/-- The reply of an accepted PART-RESET (R187). -/
def Reply.isReset (r : Reply) : Bool := r.kind == 0x6C && r.status == .ok

/-- The frame being sent is the reply of a PART-RESET whose warm reset waits: nothing is begun behind it (R187; log
26). -/
def Link.sendingReset (l : Link) : Bool :=
  l.resetWaiting &&
    (match l.sending with
      | some (.reply r) => r.isReset
      | _ => false)

/-- The notice sent next: the oldest of the highest level present (R180, R183). -/
def nextNotice (q : List Notice) : Option Notice := q.find? (fun n => n.level == highestLevel q)

/-- The queue without the notice sent next. -/
def withoutNext (q : List Notice) : List Notice := q.eraseP (fun n => n.level == highestLevel q)

/-- Begins the notice sent next, with the dropped count, which then is 0 (R183). -/
def beginNotice (s : State) : State :=
  match nextNotice s.notices.queue with
  | none => s.withLink { s.link with sending := none }
  | some n =>
    (s.withLink { s.link with sending := some (.notice n s.notices.dropped) }).withNotices
      { s.notices with queue := withoutNext s.notices.queue, dropped := 0 }

/-- The idle transmitter chooses and begins the next frame (R180). A reply begun leaves its place, so a request that
waits may be served (R177, R178). -/
def beginFrame (s : State) : State :=
  if s.link.sendingReset then s
  else
    match s.link.flow, s.link.replies with
    | .pauseDue, _ => s.withLink { s.link with sending := some .pause, flow := .paused }
    | .resumeDue, _ => s.withLink { s.link with sending := some .resume, flow := .flowOpen }
    | _, replies =>
      if s.link.hostPause then s.withLink { s.link with sending := none }
      else
        match replies with
        | r :: rs => serveAll (s.withLink { s.link with sending := some (.reply r), replies := rs })
        | [] => beginNotice s

end Sys2Proof.Machine
end

