-- ==== Sys2Proof/Machine/Start.lean ====
section
/-! DEFINITION. The starts: the store check (R201), what each block's state is after power-on and warm reset (R5, R48,
R72, R76, R112, R136, R148, R171, R188, R197), and the loss of the supply (R201). -/

namespace Sys2Proof.Machine

/-! ## What is not kept (R201) -/

/-- A record at a start, its passage field aside: no quote, no drink held (R5). -/
def Card.unquoted (c : Card) : Card := { c with quote := none, drinksHeld := 0 }

/-- An account at a start, its warning aside: nothing held (R112). -/
def Account.unheld (a : Account) : Account := { a with held := 0 }

/-- A terminal at a start (R171). -/
def Terminal.atStart (r : Terminal) : Terminal :=
  { binding := r.binding, enabled := r.enabled, online := if r.enabled then .probing else .disabled, kindSeen := none
    misses := 0, toggle := none, outstanding := none, eventToggle := none, more := false, probeDue := none }

/-- A line at a start (R171). -/
def Line.atStart (l : Line) : Line :=
  { Line.initial with
    rate := l.rate, enabled := l.enabled, slowPermitted := l.slowPermitted
    state := if l.enabled then .running else .stopped }

/-- Changes every record of a table whose unlisted numbers read as d, and go on doing so. -/
def Table.mapPut {α : Type} [DecidableEq α] (d : α) (f : α → α) (t : Table α) : Table α :=
  (t.map (fun p => (p.1, f p.2))).filter (fun p => decide (p.2 ≠ d))

/-- The door records of the terminals bound DOOR (R76). -/
def doorsBound (terms : Table Terminal) : Table Door :=
  terms.filterMap (fun p =>
    match p.2.binding with
    | .door number sect => some (p.1, Door.initial number sect)
    | _ => none)

/-- The slots of the terminals bound BAR (R136). -/
def slotsBound (terms : Table Terminal) : Table Slot :=
  terms.filterMap (fun p =>
    match p.2.binding with
    | .bar outlet => some (p.1, { outlet, quote := none, waiting := none })
    | _ => none)

/-- Everything that no store group keeps stands as it does at a start, without notices or entries: quotes and what they
reserve, passages, door and slot state, terminals and lines, the link and the notices (R5, R50, R66, R76, R112, R136,
R148, R171, R188). The clock and the card's stored passage field are apart. -/
def dropVolatile (s : State) : State :=
  { s with
    register := { s.register with cards := s.register.cards.mapVals Card.unquoted }
    lanes := Table.mapPut Lane.initial (fun l => { l with passage := none }) s.lanes
    stops := Stops.initial
    doors := { s.doors with records := doorsBound s.field.terms }
    store := { s.store with accounts := s.store.accounts.mapVals Account.unheld }
    slots := slotsBound s.field.terms
    posting := { s.posting with reserved := 0 }
    field :=
      { lines := Table.mapPut Line.initial Line.atStart s.field.lines
        terms := Table.mapPut Terminal.initial Terminal.atStart s.field.terms }
    link := Link.initial
    notices := { s.notices with queue := [], dropped := 0 } }

/-- The supply fails, or RESETN is driven low: what no store group keeps is lost, and the part stops (R201, R202). -/
def loseSupply (s : State) : State := { dropVolatile s with powered := false, clock := none }

/-! ## The store check (R201) -/

/-- Group A, the card register and the presence unit, after store initialisation (R5, R48). -/
def initA (s : State) : State := { s with register := Register.initial, presence := PresenceUnit.initial }

/-- Group B, accounts and posting queue, after store initialisation (R112, R148). -/
def initB (s : State) : State := { s with store := { s.store with accounts := [] }, posting := Posting.initial }

/-- Group C, items and outlets, after store initialisation (R105, R107, R112). -/
def initC (s : State) : State := { s with store := { s.store with items := [], outlets := [] } }

/-- Group D, settings and bindings, after store initialisation (R50, R74, R149, R171, R181, R193). -/
def initD (s : State) : State :=
  { s with
    lanes := [], doors := { records := [], settings := DoorSettings.initial }, slots := []
    field := { lines := [], terms := [] }, notices := { s.notices with levels := NoticeLevels.initial }
    log := { s.log with mode := .wrap } }

/-- Group E, the audit log's entries, counts and fill state, after store initialisation (R197). -/
def initE (s : State) : State := { s with log := { AuditLog.initial with mode := s.log.mode } }

/-- Every card names no account (R5, R201). -/
def forgetAccounts (s : State) : State :=
  { s with register := { s.register with cards := s.register.cards.mapVals (fun c => { c with account := 0 }) } }

/-- The loss flags after a check (R201). -/
def Groups.join (g h : Groups) : Groups :=
  { a := g.a || h.a, b := g.b || h.b, c := g.c || h.c, d := g.d || h.d, e := g.e || h.e }

/-- The groups that fail their check are initialised (R201). -/
def storeCheck (fails : Groups) (s : State) : State :=
  let s1 := if fails.a then initA s else s
  let s2 := if fails.b then forgetAccounts (initB s1) else s1
  let s3 := if fails.c then initC s2 else s2
  let s4 := if fails.d then initD s3 else s3
  if fails.e then initE s4 else s4

/-! ## The blocks' start work -/

/-- A card whose passage field names a lane: the field becomes none and the conflict is set (R72, step 1). -/
def dropPassage (n : Nat) (s : State) : State :=
  match s.card? n with
  | none => s
  | some c =>
    if c.passage.isSome then setConflict n .uncertainPassage .startUp (s.setCard n { c with passage := none }) else s

/-- The dropped passages of some records, in order. -/
def dropPassages : List Nat → State → State
  | [], s => s
  | n :: ns, s => dropPassages ns (dropPassage n s)

/-- The LOADING trip whose lane field names the lane, or 0 (R72, step 2). -/
def loadingTrip (ts : Table Trip) (lane : Nat) : Nat :=
  match ts.find? (fun p => p.2.state == .loading && p.2.lane == lane) with
  | some p => p.1
  | none => 0

/-- A lane's trip is taken afresh and its pacing timer restarts (R72, steps 2 and 3). -/
def restartLane (n : Nat) (s : State) : State :=
  s.setLane n { s.lane n with trip := loadingTrip s.presence.trips n, passage := none, pacingStart := s.now }

/-- Some lanes, in order. -/
def restartLanes : List Nat → State → State
  | [], s => s
  | n :: ns, s => restartLanes ns (restartLane n s)

/-- The lane controller's start work (R72). -/
def laneStartWork (s : State) : State :=
  restartLanes ((List.range Limits.lanes).map (· + 1)) (dropPassages (s.register.cards.map (·.1)) s)

/-- The warning of an account is evaluated at the start (R112). -/
def startWarning (n : Nat) (s : State) : State :=
  match s.account? n with
  | none => s
  | some a => writeAccount n a .start s

/-- Some accounts, in order. -/
def startWarnings : List Nat → State → State
  | [], s => s
  | n :: ns, s => startWarnings ns (startWarning n s)

/-- A retained backlog state HIGH raises BACKLOG-HIGH (R148). -/
def startBacklog (s : State) : State :=
  if s.posting.high then raise .backlogHigh s.posting.backlogFields s else s

/-- Polling begins: each line chooses its first poll (R167, R171). -/
def startPolling : List Nat → State → State
  | [], s => s
  | l :: ls, s => startPolling ls (kick l s)

/-- What a START notice carries (R198). -/
def startFields (k : StartKind) (loss : Groups) : List Field := .u1 k.num :: Groups.flags loss

/-- The host link rate that the straps select: RATE1 and RATE0 low-low 115,200, low-high 230,400, high-low 460,800,
high-high 921,600 baud (R202). -/
def linkRate (x : Straps) : LinkRate :=
  match x.rate1, x.rate0 with
  | false, false => .b115200
  | false, true => .b230400
  | true, false => .b460800
  | true, true => .b921600

/-- A link rate in baud (R202). -/
def LinkRate.baud : LinkRate → Nat
  | .b115200 => 115200
  | .b230400 => 230400
  | .b460800 => 460800
  | .b921600 => 921600

/-- The rate the host link runs at: a strap changed since the last start has no effect (R202). -/
def State.linkBaud (s : State) : Nat := s.startup.rate.baud

/-- A start, the clock and the time base apart: the store check, START, then the blocks' work in the order of R188 (log
15, 17). -/
def start (k : StartKind) (fails : Groups) (straps : Straps) (s : State) : State :=
  let loss := Groups.join s.startup.loss fails
  let s1 := storeCheck fails (dropVolatile s)
  let s2 := (s1.withStartup { kind := k, loss, rate := linkRate straps }).withPins { s1.pins with straps }
  let s3 := raise .start (startFields k loss) s2
  let s4 := startBacklog (startWarnings (s3.store.accounts.map (·.1)) (laneStartWork s3))
  startPolling ((List.range Limits.lines).map (· + 1)) s4

/-- Power-on: the supply is applied or RESETN released, the clock UNSET and the time base at 0 (R184, R202; log 6, 18). -/
def powerOn (fails : Groups) (straps : Straps) (s : State) : State :=
  start .powerOn fails straps { s with powered := true, clock := none, now := 0 }

/-- Warm reset: a power-on that keeps the clock (R187; log 6, 19). -/
def warmReset (fails : Groups) (straps : Straps) (s : State) : State := start .warm fails straps s

end Sys2Proof.Machine
end

