-- ==== Sys2Proof/Machine/LinkCommands.lean ====
section
/-! DEFINITION. The meanings of the power commands and of the host link's commands that are no requests, with what the
part does while no command waits. -/

namespace Sys2Proof.Machine

/-! ## Power (R187, R201; log 17, 18, 19) -/

/-- POWER_ON (R201): it is the one command a part without supply takes. -/
def execPowerOn (fails : Groups) (straps : Straps) (s : State) : Host.Outcome State Fault Refusal :=
  .next (powerOn fails straps s)

/-- The last byte of the PART-RESET reply has been sent: the warm reset is taken. While that reply has not been begun, or
no PART-RESET waits, there is no warm reset (R187; log 19). -/
def resetReplySent (fails : Groups) (straps : Straps) (s : State) : State :=
  if s.link.sendingReset then warmReset fails straps s else s

/-- WARM_RESET (R187). -/
def execWarmReset (fails : Groups) (straps : Straps) (s : State) : Host.Outcome State Fault Refusal :=
  live (resetReplySent fails straps) s

/-- LOSS_OF_SUPPLY (R201). -/
def execLossOfSupply (s : State) : Host.Outcome State Fault Refusal := live loseSupply s

/-! ## The host link -/

/-- HOST_PAUSE (R176). -/
def execHostPause (s : State) : Host.Outcome State Fault Refusal := live (flowArrives true) s

/-- HOST_RESUME (R176). -/
def execHostResume (s : State) : Host.Outcome State Fault Refusal := live (flowArrives false) s

/-- HOST_RX_BYTE (R173, R174). -/
def execHostRxByte (b : Byte) (s : State) : Host.Outcome State Fault Refusal := live (receiveByte b) s

/-- RX_GAP_TIMEOUT (R173). -/
def execRxGapTimeout (s : State) : Host.Outcome State Fault Refusal := live gapTimeout s

/-- RX_IDLE_TIMEOUT (R173). -/
def execRxIdleTimeout (s : State) : Host.Outcome State Fault Refusal := live idleTimeout s

/-- TX_FRAME_BEGIN (R180). -/
def execTxFrameBegin (s : State) : Host.Outcome State Fault Refusal := live beginFrame s

/-- CLOCK_SECOND (R184). -/
def execClockSecond (s : State) : Host.Outcome State Fault Refusal := live clockSecond s

/-! ## Time without a command (log 4) -/

/-- A millisecond passes with nothing to do: the time base moves on, and every 10 ms both stop inputs are sampled
(R66). That STOP-A is sampled before STOP-B is the model's choice (log 4). -/
def millisecond (s : State) : State :=
  let s1 := s.withNow (s.now + 1)
  if s1.now % Limits.sampleMs = 0 then sampleStop .stopB (sampleStop .stopA s1) else s1

/-- What a step with no command waiting answers. -/
def idle (s : State) : Host.Outcome State Fault Refusal := live millisecond s

end Sys2Proof.Machine
end

