-- ==== Sys2Proof/Machine/RequestCommands.lean ====
section
/-! DEFINITION. The meanings of the request commands: each is one good request frame, which waits in the inbound buffer
and is served as R177 says, at once where it may be (log 2, 3). -/

namespace Sys2Proof.Machine

/-- CARD_ISSUE (R14). -/
def execCardIssue (tag : Byte) (b : Body CardIssueReq) (s : State) : Host.Outcome State Fault Refusal :=
  live (requestArrives tag (.cardIssue b)) s

/-- CARD_REISSUE (R15). -/
def execCardReissue (tag : Byte) (b : Body CardReissueReq) (s : State) : Host.Outcome State Fault Refusal :=
  live (requestArrives tag (.cardReissue b)) s

/-- CARD_STATUS (R17). -/
def execCardStatus (tag : Byte) (b : Body CardStatusReq) (s : State) : Host.Outcome State Fault Refusal :=
  live (requestArrives tag (.cardStatus b)) s

/-- CARD_SET (R18). -/
def execCardSet (tag : Byte) (b : Body CardSetReq) (s : State) : Host.Outcome State Fault Refusal :=
  live (requestArrives tag (.cardSet b)) s

/-- CARD_VACATE (R21). -/
def execCardVacate (tag : Byte) (b : Body Nat) (s : State) : Host.Outcome State Fault Refusal :=
  live (requestArrives tag (.cardVacate b)) s

/-- CARD_READ (R22). -/
def execCardRead (tag : Byte) (b : Body Nat) (s : State) : Host.Outcome State Fault Refusal :=
  live (requestArrives tag (.cardRead b)) s

/-- CARD_FIND (R23). -/
def execCardFind (tag : Byte) (b : Body Serial) (s : State) : Host.Outcome State Fault Refusal :=
  live (requestArrives tag (.cardFind b)) s

/-- PRESENCE_SET (R46). -/
def execPresenceSet (tag : Byte) (b : Body PresenceSetReq) (s : State) : Host.Outcome State Fault Refusal :=
  live (requestArrives tag (.presenceSet b)) s

/-- CONFLICT_CLEAR (R29). -/
def execConflictClear (tag : Byte) (b : Body Nat) (s : State) : Host.Outcome State Fault Refusal :=
  live (requestArrives tag (.conflictClear b)) s

/-- COUNT_READ (R27). -/
def execCountRead (tag : Byte) (b : Body Unit) (s : State) : Host.Outcome State Fault Refusal :=
  live (requestArrives tag (.countRead b)) s

/-- TRIP_OPEN (R35). -/
def execTripOpen (tag : Byte) (b : Body TripOpenReq) (s : State) : Host.Outcome State Fault Refusal :=
  live (requestArrives tag (.tripOpen b)) s

/-- TRIP_CASTOFF (R36). -/
def execTripCastoff (tag : Byte) (b : Body Nat) (s : State) : Host.Outcome State Fault Refusal :=
  live (requestArrives tag (.tripCastoff b)) s

/-- TRIP_CLEAR (R38). -/
def execTripClear (tag : Byte) (b : Body Nat) (s : State) : Host.Outcome State Fault Refusal :=
  live (requestArrives tag (.tripClear b)) s

/-- TRIP_READ (R40). -/
def execTripRead (tag : Byte) (b : Body TripReadReq) (s : State) : Host.Outcome State Fault Refusal :=
  live (requestArrives tag (.tripRead b)) s

/-- CALL_SET (R41). -/
def execCallSet (tag : Byte) (b : Body Nat) (s : State) : Host.Outcome State Fault Refusal :=
  live (requestArrives tag (.callSet b)) s

/-- SAIL (R42). -/
def execSail (tag : Byte) (b : Body Nat) (s : State) : Host.Outcome State Fault Refusal :=
  live (requestArrives tag (.sail b)) s

/-- ARRIVE (R44). -/
def execArrive (tag : Byte) (b : Body Unit) (s : State) : Host.Outcome State Fault Refusal :=
  live (requestArrives tag (.arrive b)) s

/-- LEFT_READ (R44). -/
def execLeftRead (tag : Byte) (b : Body Nat) (s : State) : Host.Outcome State Fault Refusal :=
  live (requestArrives tag (.leftRead b)) s

/-- LANE_SET (R52). -/
def execLaneSet (tag : Byte) (b : Body LaneSetReq) (s : State) : Host.Outcome State Fault Refusal :=
  live (requestArrives tag (.laneSet b)) s

/-- LANE_READ (R53). -/
def execLaneRead (tag : Byte) (b : Body Nat) (s : State) : Host.Outcome State Fault Refusal :=
  live (requestArrives tag (.laneRead b)) s

/-- DOOR_CONFIG (R74). -/
def execDoorConfig (tag : Byte) (b : Body DoorConfigReq) (s : State) : Host.Outcome State Fault Refusal :=
  live (requestArrives tag (.doorConfig b)) s

/-- DOOR_READ (R75). -/
def execDoorRead (tag : Byte) (b : Body Nat) (s : State) : Host.Outcome State Fault Refusal :=
  live (requestArrives tag (.doorRead b)) s

/-- DOOR_OPEN (R88). -/
def execDoorOpen (tag : Byte) (b : Body Nat) (s : State) : Host.Outcome State Fault Refusal :=
  live (requestArrives tag (.doorOpen b)) s

/-- ACCOUNT_SET (R102). -/
def execAccountSet (tag : Byte) (b : Body AccountSetReq) (s : State) : Host.Outcome State Fault Refusal :=
  live (requestArrives tag (.accountSet b)) s

/-- ACCOUNT_CLOSE (R103). -/
def execAccountClose (tag : Byte) (b : Body Nat) (s : State) : Host.Outcome State Fault Refusal :=
  live (requestArrives tag (.accountClose b)) s

/-- ACCOUNT_READ (R104). -/
def execAccountRead (tag : Byte) (b : Body Nat) (s : State) : Host.Outcome State Fault Refusal :=
  live (requestArrives tag (.accountRead b)) s

/-- ITEM_SET (R105). -/
def execItemSet (tag : Byte) (b : Body ItemSetReq) (s : State) : Host.Outcome State Fault Refusal :=
  live (requestArrives tag (.itemSet b)) s

/-- ITEM_READ (R106). -/
def execItemRead (tag : Byte) (b : Body Nat) (s : State) : Host.Outcome State Fault Refusal :=
  live (requestArrives tag (.itemRead b)) s

/-- OUTLET_SET (R107). -/
def execOutletSet (tag : Byte) (b : Body OutletSetReq) (s : State) : Host.Outcome State Fault Refusal :=
  live (requestArrives tag (.outletSet b)) s

/-- OUTLET_READ (R108). -/
def execOutletRead (tag : Byte) (b : Body Nat) (s : State) : Host.Outcome State Fault Refusal :=
  live (requestArrives tag (.outletRead b)) s

/-- DAY_ROLL (R110). -/
def execDayRoll (tag : Byte) (b : Body Unit) (s : State) : Host.Outcome State Fault Refusal :=
  live (requestArrives tag (.dayRoll b)) s

/-- CHARGE_READ (R142). -/
def execChargeRead (tag : Byte) (b : Body Nat) (s : State) : Host.Outcome State Fault Refusal :=
  live (requestArrives tag (.chargeRead b)) s

/-- CHARGE_POSTED (R144). -/
def execChargePosted (tag : Byte) (b : Body Nat) (s : State) : Host.Outcome State Fault Refusal :=
  live (requestArrives tag (.chargePosted b)) s

/-- LINE_SET (R150). -/
def execLineSet (tag : Byte) (b : Body LineSetReq) (s : State) : Host.Outcome State Fault Refusal :=
  live (requestArrives tag (.lineSet b)) s

/-- LINE_READ (R151). -/
def execLineRead (tag : Byte) (b : Body LineReadReq) (s : State) : Host.Outcome State Fault Refusal :=
  live (requestArrives tag (.lineRead b)) s

/-- TERM_BIND (R155). -/
def execTermBind (tag : Byte) (b : Body TermBindReq) (s : State) : Host.Outcome State Fault Refusal :=
  live (requestArrives tag (.termBind b)) s

/-- TERM_ENABLE (R155). -/
def execTermEnable (tag : Byte) (b : Body TermId) (s : State) : Host.Outcome State Fault Refusal :=
  live (requestArrives tag (.termEnable b)) s

/-- TERM_DISABLE (R156). -/
def execTermDisable (tag : Byte) (b : Body TermId) (s : State) : Host.Outcome State Fault Refusal :=
  live (requestArrives tag (.termDisable b)) s

/-- TERM_READ (R157). -/
def execTermRead (tag : Byte) (b : Body TermId) (s : State) : Host.Outcome State Fault Refusal :=
  live (requestArrives tag (.termRead b)) s

/-- LOG_MODE (R193). -/
def execLogMode (tag : Byte) (b : Body Nat) (s : State) : Host.Outcome State Fault Refusal :=
  live (requestArrives tag (.logMode b)) s

/-- LOG_READ (R194). -/
def execLogRead (tag : Byte) (b : Body Unit) (s : State) : Host.Outcome State Fault Refusal :=
  live (requestArrives tag (.logRead b)) s

/-- NOTICE_LEVEL (R181). -/
def execNoticeLevel (tag : Byte) (b : Body NoticeLevelReq) (s : State) : Host.Outcome State Fault Refusal :=
  live (requestArrives tag (.noticeLevel b)) s

/-- CLOCK_SET (R184). -/
def execClockSet (tag : Byte) (b : Body ClockSetReq) (s : State) : Host.Outcome State Fault Refusal :=
  live (requestArrives tag (.clockSet b)) s

/-- PART_STATUS (R185). -/
def execPartStatus (tag : Byte) (b : Body Nat) (s : State) : Host.Outcome State Fault Refusal :=
  live (requestArrives tag (.partStatus b)) s

/-- PART_CLEAR (R186). -/
def execPartClear (tag : Byte) (b : Body Unit) (s : State) : Host.Outcome State Fault Refusal :=
  live (requestArrives tag (.partClear b)) s

/-- PART_RESET (R187). -/
def execPartReset (tag : Byte) (b : Body Unit) (s : State) : Host.Outcome State Fault Refusal :=
  live (requestArrives tag (.partReset b)) s

/-- UNKNOWN_KIND_REQUEST (R177). -/
def execUnknownKindRequest (tag : Byte) (kind length : Nat) (s : State) : Host.Outcome State Fault Refusal :=
  live (requestArrives tag (.unknownKind kind length)) s

end Sys2Proof.Machine
end

