-- ==== Sys2Proof/Machine/Dispatch.lean ====
section
/-! DEFINITION. One arm for each command, each one call of its meaning. -/

namespace Sys2Proof.Machine

def exec (i : Instr) (s : State) : Host.Outcome State Fault Refusal :=
  match i with
  | .powerOn fails straps => Sys2Proof.Machine.execPowerOn fails straps s
  | .warmReset fails straps => Sys2Proof.Machine.execWarmReset fails straps s
  | .cardIssue tag b => Sys2Proof.Machine.execCardIssue tag b s
  | .cardReissue tag b => Sys2Proof.Machine.execCardReissue tag b s
  | .cardStatus tag b => Sys2Proof.Machine.execCardStatus tag b s
  | .cardSet tag b => Sys2Proof.Machine.execCardSet tag b s
  | .cardVacate tag b => Sys2Proof.Machine.execCardVacate tag b s
  | .cardRead tag b => Sys2Proof.Machine.execCardRead tag b s
  | .cardFind tag b => Sys2Proof.Machine.execCardFind tag b s
  | .presenceSet tag b => Sys2Proof.Machine.execPresenceSet tag b s
  | .conflictClear tag b => Sys2Proof.Machine.execConflictClear tag b s
  | .countRead tag b => Sys2Proof.Machine.execCountRead tag b s
  | .tripOpen tag b => Sys2Proof.Machine.execTripOpen tag b s
  | .tripCastoff tag b => Sys2Proof.Machine.execTripCastoff tag b s
  | .tripClear tag b => Sys2Proof.Machine.execTripClear tag b s
  | .tripRead tag b => Sys2Proof.Machine.execTripRead tag b s
  | .callSet tag b => Sys2Proof.Machine.execCallSet tag b s
  | .sail tag b => Sys2Proof.Machine.execSail tag b s
  | .arrive tag b => Sys2Proof.Machine.execArrive tag b s
  | .leftRead tag b => Sys2Proof.Machine.execLeftRead tag b s
  | .laneSet tag b => Sys2Proof.Machine.execLaneSet tag b s
  | .laneRead tag b => Sys2Proof.Machine.execLaneRead tag b s
  | .doorConfig tag b => Sys2Proof.Machine.execDoorConfig tag b s
  | .doorRead tag b => Sys2Proof.Machine.execDoorRead tag b s
  | .doorOpen tag b => Sys2Proof.Machine.execDoorOpen tag b s
  | .accountSet tag b => Sys2Proof.Machine.execAccountSet tag b s
  | .accountClose tag b => Sys2Proof.Machine.execAccountClose tag b s
  | .accountRead tag b => Sys2Proof.Machine.execAccountRead tag b s
  | .itemSet tag b => Sys2Proof.Machine.execItemSet tag b s
  | .itemRead tag b => Sys2Proof.Machine.execItemRead tag b s
  | .outletSet tag b => Sys2Proof.Machine.execOutletSet tag b s
  | .outletRead tag b => Sys2Proof.Machine.execOutletRead tag b s
  | .dayRoll tag b => Sys2Proof.Machine.execDayRoll tag b s
  | .chargeRead tag b => Sys2Proof.Machine.execChargeRead tag b s
  | .chargePosted tag b => Sys2Proof.Machine.execChargePosted tag b s
  | .lineSet tag b => Sys2Proof.Machine.execLineSet tag b s
  | .lineRead tag b => Sys2Proof.Machine.execLineRead tag b s
  | .termBind tag b => Sys2Proof.Machine.execTermBind tag b s
  | .termEnable tag b => Sys2Proof.Machine.execTermEnable tag b s
  | .termDisable tag b => Sys2Proof.Machine.execTermDisable tag b s
  | .termRead tag b => Sys2Proof.Machine.execTermRead tag b s
  | .logMode tag b => Sys2Proof.Machine.execLogMode tag b s
  | .logRead tag b => Sys2Proof.Machine.execLogRead tag b s
  | .noticeLevel tag b => Sys2Proof.Machine.execNoticeLevel tag b s
  | .clockSet tag b => Sys2Proof.Machine.execClockSet tag b s
  | .partStatus tag b => Sys2Proof.Machine.execPartStatus tag b s
  | .partClear tag b => Sys2Proof.Machine.execPartClear tag b s
  | .partReset tag b => Sys2Proof.Machine.execPartReset tag b s
  | .unknownKindRequest tag kind length => Sys2Proof.Machine.execUnknownKindRequest tag kind length s
  | .hostPause => Sys2Proof.Machine.execHostPause s
  | .hostResume => Sys2Proof.Machine.execHostResume s
  | .hostRxByte b => Sys2Proof.Machine.execHostRxByte b s
  | .rxGapTimeout => Sys2Proof.Machine.execRxGapTimeout s
  | .rxIdleTimeout => Sys2Proof.Machine.execRxIdleTimeout s
  | .txFrameBegin => Sys2Proof.Machine.execTxFrameBegin s
  | .clockSecond => Sys2Proof.Machine.execClockSecond s
  | .fieldReply line frame => Sys2Proof.Machine.execFieldReply line frame s
  | .replyTimeout line => Sys2Proof.Machine.execReplyTimeout line s
  | .replyGapTimeout line => Sys2Proof.Machine.execReplyGapTimeout line s
  | .probeDue term => Sys2Proof.Machine.execProbeDue term s
  | .slowSweep line => Sys2Proof.Machine.execSlowSweep line s
  | .lineBreak line => Sys2Proof.Machine.execLineBreak line s
  | .lineFaultCheck line restored => Sys2Proof.Machine.execLineFaultCheck line restored s
  | .doorPresent term serial => Sys2Proof.Machine.execDoorPresent term serial s
  | .doorPrivacy term on => Sys2Proof.Machine.execDoorPrivacy term on s
  | .doorContact term isOpen => Sys2Proof.Machine.execDoorContact term isOpen s
  | .openAck term => Sys2Proof.Machine.execOpenAck term s
  | .showAck term => Sys2Proof.Machine.execShowAck term s
  | .overrideWindowExpiry term => Sys2Proof.Machine.execOverrideWindowExpiry term s
  | .holdExpiry term => Sys2Proof.Machine.execHoldExpiry term s
  | .ajarExpiry term => Sys2Proof.Machine.execAjarExpiry term s
  | .streakQuietExpiry term => Sys2Proof.Machine.execStreakQuietExpiry term s
  | .gatePresent term serial => Sys2Proof.Machine.execGatePresent term serial s
  | .pacingTick lane => Sys2Proof.Machine.execPacingTick lane s
  | .releaseAck term => Sys2Proof.Machine.execReleaseAck term s
  | .revokeAck term => Sys2Proof.Machine.execRevokeAck term s
  | .gatePassed term => Sys2Proof.Machine.execGatePassed term s
  | .firstGateTimeout lane => Sys2Proof.Machine.execFirstGateTimeout lane s
  | .secondGateTimeout lane => Sys2Proof.Machine.execSecondGateTimeout lane s
  | .stopInputChange input asserted => Sys2Proof.Machine.execStopInputChange input asserted s
  | .barPurchase term serial lines => Sys2Proof.Machine.execBarPurchase term serial lines s
  | .barKeyConfirm term => Sys2Proof.Machine.execBarKeyConfirm term s
  | .barKeyCancel term => Sys2Proof.Machine.execBarKeyCancel term s
  | .quoteExpiry term => Sys2Proof.Machine.execQuoteExpiry term s
  | .quoteAck term => Sys2Proof.Machine.execQuoteAck term s
  | .resultAck term => Sys2Proof.Machine.execResultAck term s
  | .lossOfSupply => Sys2Proof.Machine.execLossOfSupply s

end Sys2Proof.Machine
end

