-- ==== Sys2Proof/Machine/Step.lean ====
section
/-! DEFINITION. One step of the part: the command at the front of the queue, or a millisecond where none waits. -/

namespace Sys2Proof.Machine

/-- Takes the oldest waiting command and runs it with the rest of the queue; with none waiting, time passes (log 4). -/
def step (s : State) : Host.Outcome State Fault Refusal :=
  match s.pending with
  | [] => idle s
  | c :: cs => exec c (s.withPending cs)

/-- s with the command that a word spells at the front of its queue; no word spells one (log 36). -/
def State.withFetchWord (s : State) (nbits w : Nat) : State :=
  match decodeTableWord nbits w with
  | some c => s.withPending (c :: s.pending)
  | none => s

end Sys2Proof.Machine
end

