-- ==== Sys2Proof/Safety.lean ====
section
/-! DEFINITION. What a safe state of the part is, in the terms the claims use: the tables in canonical form, the index
agreeing with the records, the tallies agreeing with the records, queues and counters within their bounds; and when a
request is served at once. -/

namespace Sys2Proof.Machine

/-! ## A request served at once -/

/-- A request frame with a body of len bytes is served in the step it arrives in, the flow state untouched: the part has
its supply, no request waits, the reply queue has room, no PART-RESET waits, and the fill stays below 1,536 (R174, R175,
R177). -/
abbrev Ready (s : State) (len : Nat) : Prop :=
  s.powered = true ∧ s.link.frames = [] ∧ s.link.replies.length < 8 ∧ s.link.resetWaiting = false ∧
    s.link.flow = .flowOpen ∧ len ≤ 1020 ∧ s.link.rxBytes.length + len + 7 < 1536

/-- The part after a request whose whole effect on it is f, and whose reply is the given one. -/
def replied (kind : Nat) (tag : Byte) (status : Code) (body : List Field) (s : State) : State :=
  { s with link := { s.link with replies := s.link.replies ++ [{ kind, tag, status, body }] } }

/-! ## Canonical form -/

/-- Every table lists its records in rising order, once each; a table with defaults lists no default. -/
abbrev Canonical (s : State) : Prop :=
  s.register.cards.sorted ∧ s.presence.trips.sorted ∧ s.lanes.sorted ∧ s.doors.records.sorted ∧
    s.store.accounts.sorted ∧ s.store.items.sorted ∧ s.store.outlets.sorted ∧ s.slots.sorted ∧
    s.field.lines.sorted ∧ s.field.terms.sorted ∧
    (∀ p ∈ s.lanes, p.2 ≠ Lane.initial) ∧ (∀ p ∈ s.store.outlets, p.2 ≠ Outlet.initial) ∧
    (∀ p ∈ s.field.lines, p.2 ≠ Line.initial) ∧ (∀ p ∈ s.field.terms, p.2 ≠ Terminal.initial)

/-! ## The serial index (R6, R7) -/

/-- The index holds a serial exactly when a record carries it, no serial twice; the withdrawn list holds no serial twice
and none of the index; records are numbered 0 to 1,023. -/
abbrev Indexed (s : State) : Prop :=
  s.register.cards.sorted ∧
    (∀ p ∈ s.register.cards, p.1 < 1024 ∧ (p.2.serial, p.1) ∈ s.register.index) ∧
    (∀ e ∈ s.register.index, (s.register.cards.find e.2).map (·.serial) = some e.1) ∧
    (s.register.index.map (·.1)).Nodup ∧ s.register.withdrawn.Nodup ∧
    (∀ x ∈ s.register.withdrawn, x ∉ s.register.index.map (·.1))

/-! ## The tallies (R25) -/

/-- The number of counted records with a presence. -/
def countPresence (p : Presence) (s : State) : Nat :=
  (s.register.cards.filter (fun r => r.2.counted && r.2.presence == p)).length

/-- The number of counted records whose conflict is set. -/
def countConflicts (s : State) : Nat :=
  (s.register.cards.filter (fun r => r.2.counted && r.2.conflict.isSome)).length

/-- The three counts agree with the records. -/
abbrev Tallied (s : State) : Prop :=
  s.register.cards.sorted ∧ s.presence.aboard = countPresence .aboard s ∧ s.presence.ashore = countPresence .ashore s ∧
    s.presence.conflicts = countConflicts s

/-! ## Bounds -/

/-- The queues and lists are within their places, the counters that stay at 65,535 do not pass it; committed charges and
reserved places share the 256 of the posting queue, and no more quotes are open than places reserved (R7, R137, R140, R149,
R173, R174, R178, R182, R190). -/
abbrev Bounded (s : State) : Prop :=
  s.link.replies.length ≤ 8 ∧ s.link.fill ≤ 2048 ∧ s.notices.queue.length ≤ 64 ∧ s.log.entries.length ≤ 2048 ∧
    s.register.withdrawn.length ≤ 256 ∧ s.link.badCheck ≤ 65535 ∧ s.link.overLength ≤ 65535 ∧ s.link.gap ≤ 65535 ∧
    s.link.overrun ≤ 65535 ∧ s.notices.dropped ≤ 65535 ∧ s.log.dropped ≤ 65535 ∧ s.log.overwritten ≤ 65535 ∧
    (∀ p ∈ s.field.lines,
      p.2.badCheck ≤ 65535 ∧ p.2.truncated ≤ 65535 ∧ p.2.wrongAddress ≤ 65535 ∧ p.2.noReply ≤ 65535) ∧
    s.posting.committed.length + s.posting.reserved ≤ 256 ∧
    (s.slots.filter (fun p => p.2.quote.isSome)).length ≤ s.posting.reserved

/-- A safe state. -/
abbrev Safe (s : State) : Prop := Canonical s ∧ Indexed s ∧ Tallied s ∧ Bounded s

end Sys2Proof.Machine
end

