-- ==== Sys2Proof/WellFormed.lean ====
section
/-! DEFINITION. Which commands can stand for something that reaches the part: numbers that fit their widths on the host
link, bodies of the length their kind has exactly where they carry fields, terminals, lanes and lines that exist (R152,
R172, R198, R199). `exec` answers on every command; this only says which ones are meant. -/

namespace Sys2Proof

/-- n fits w bytes. -/
def fits (w n : Nat) : Bool := decide (n < 256 ^ w)

/-- An amount of money fits four bytes (R198). -/
def fitsMoney (v : Int) : Bool := decide (-2147483648 ≤ v ∧ v ≤ 2147483647)

/-- A serial as it can arrive in a request: 4, 7 or 10 bytes, or empty for a length that is none of these (R198). -/
def wireSerialForm (x : Serial) : Bool := x.length == 0 || x.length == 4 || x.length == 7 || x.length == 10

/-- A serial as a terminal presents it (R199). -/
def presentedForm (x : Serial) : Bool := x.length == 4 || x.length == 7 || x.length == 10

/-- A body fits a frame (R172). -/
def bodyFits (n : Nat) : Bool := decide (n ≤ 1020)

/-- A body of fixed width w: it has fields exactly where its length is w, and they pass the test (R198). -/
def bodyForm {α : Type} (w : Nat) (b : Body α) (f : α → Bool) : Bool :=
  bodyFits b.length &&
    (match b.fields with
      | none => b.length != w
      | some x => b.length == w && f x)

/-- A body whose width varies. -/
def bodyOpen {α : Type} (b : Body α) (f : α → Bool) : Bool :=
  bodyFits b.length &&
    (match b.fields with
      | none => true
      | some x => f x)

/-- A present value passes the test. -/
def presentForm {α : Type} (v : Option α) (f : α → Bool) : Bool :=
  match v with
  | none => true
  | some x => f x

/-- Two minutes in two bytes each. -/
def windowForm (w : Window) : Bool := fits 2 w.start && fits 2 w.stop

/-- A list of door numbers on the wire. -/
def doorsForm (ds : List Nat) : Bool := fits 1 ds.length && ds.all (fits 2)

/-- A terminal exists (R152). -/
def termForm (t : TermId) : Bool := decide (1 ≤ t.line ∧ t.line ≤ 8 ∧ 1 ≤ t.addr ∧ t.addr ≤ 31)

/-- A terminal as two bytes of a request. -/
def termWire (t : TermId) : Bool := fits 1 t.line && fits 1 t.addr

/-- A lane or line exists. -/
def eightForm (n : Nat) : Bool := decide (1 ≤ n ∧ n ≤ 8)

/-- A kind code that names no request and no flow frame (R177, R198). -/
def unknownKindForm (k : Nat) : Bool :=
  fits 1 k && !(decide (0x10 ≤ k ∧ k ≤ 0x16) || decide (0x20 ≤ k ∧ k ≤ 0x2A) || decide (0x30 ≤ k ∧ k ≤ 0x31)
    || decide (0x38 ≤ k ∧ k ≤ 0x3A) || decide (0x40 ≤ k ∧ k ≤ 0x47) || decide (0x50 ≤ k ∧ k ≤ 0x51)
    || decide (0x58 ≤ k ∧ k ≤ 0x5D) || decide (0x60 ≤ k ∧ k ≤ 0x61) || decide (0x68 ≤ k ∧ k ≤ 0x6C)
    || decide (0x71 ≤ k ∧ k ≤ 0x72))

def CardIssueReq.form (q : CardIssueReq) : Bool :=
  fits 1 q.kind && wireSerialForm q.serial && presentForm q.role (fits 1) && presentForm q.sect (fits 1)
    && presentForm q.window windowForm && presentForm q.doors doorsForm && presentForm q.account (fits 2)
    && presentForm q.adult (fits 1) && presentForm q.package (fits 1) && presentForm q.drinkCap fitsMoney
    && presentForm q.dailyCap (fits 1)

def CardSetReq.form (q : CardSetReq) : Bool :=
  fits 2 q.record && presentForm q.role (fits 1) && presentForm q.sect (fits 1)
    && presentForm q.window windowForm && presentForm q.doors doorsForm && presentForm q.account (fits 2)
    && presentForm q.adult (fits 1) && presentForm q.package (fits 1) && presentForm q.drinkCap fitsMoney
    && presentForm q.dailyCap (fits 1)

def LaneSetReq.form (q : LaneSetReq) : Bool :=
  fits 1 q.lane && fits 1 q.direction && fits 1 q.chain && fits 1 q.tripRequired && fits 2 q.pacing
    && fits 1 q.firstTimeout && fits 1 q.secondTimeout && fits 1 q.stopLinked

def DoorConfigReq.form (q : DoorConfigReq) : Bool :=
  fits 1 q.overrideWindow && fits 1 q.streakThreshold && fits 2 q.holdTime && fits 2 q.ajarTime && fits 1 q.lowTrip
    && fits 1 q.critTrip && fits 1 q.hysteresis && fits 1 q.filterCount

def AccountSetReq.form (q : AccountSetReq) : Bool :=
  fits 2 q.account && presentForm q.balance fitsMoney && presentForm q.limit fitsMoney
    && presentForm q.allowance fitsMoney && presentForm q.discount (fits 2)

def BindArg.form : BindArg → Bool
  | .unbound => true
  | .door number sect => fits 2 number && fits 1 sect
  | .bar outlet => fits 1 outlet
  | .gateFirst lane => fits 1 lane
  | .gateSecond lane => fits 1 lane
  | .unassigned code => fits 1 code && decide (4 < code)

/-- The form of a command. -/
def Instr.wellFormed : Instr → Bool
  | .powerOn _ _ => true
  | .warmReset _ _ => true
  | .cardIssue _ b => bodyOpen b CardIssueReq.form
  | .cardReissue _ b => bodyForm 13 b (fun q => fits 2 q.record && wireSerialForm q.serial)
  | .cardStatus _ b => bodyForm 3 b (fun q => fits 2 q.record && fits 1 q.status)
  | .cardSet _ b => bodyOpen b CardSetReq.form
  | .cardVacate _ b => bodyForm 2 b (fits 2)
  | .cardRead _ b => bodyForm 2 b (fits 2)
  | .cardFind _ b => bodyForm 11 b wireSerialForm
  | .presenceSet _ b => bodyForm 3 b (fun q => fits 2 q.record && fits 1 q.presence)
  | .conflictClear _ b => bodyForm 2 b (fits 2)
  | .countRead _ b => bodyForm 0 b (fun _ => true)
  | .tripOpen _ b => bodyForm 4 b (fun q => fits 1 q.trip && fits 1 q.boat && fits 1 q.capacity && fits 1 q.lane)
  | .tripCastoff _ b => bodyForm 1 b (fits 1)
  | .tripClear _ b => bodyForm 1 b (fits 1)
  | .tripRead _ b => bodyForm 2 b (fun q => fits 1 q.trip && fits 1 q.start)
  | .callSet _ b => bodyForm 1 b (fits 1)
  | .sail _ b => bodyForm 1 b (fits 1)
  | .arrive _ b => bodyForm 0 b (fun _ => true)
  | .leftRead _ b => bodyForm 2 b (fits 2)
  | .laneSet _ b => bodyForm 9 b LaneSetReq.form
  | .laneRead _ b => bodyForm 1 b (fits 1)
  | .doorConfig _ b => bodyForm 10 b DoorConfigReq.form
  | .doorRead _ b => bodyForm 2 b (fits 2)
  | .doorOpen _ b => bodyForm 2 b (fits 2)
  | .accountSet _ b => bodyOpen b AccountSetReq.form
  | .accountClose _ b => bodyForm 2 b (fits 2)
  | .accountRead _ b => bodyForm 2 b (fits 2)
  | .itemSet _ b =>
    bodyForm 9 b (fun q => fits 2 q.item && fitsMoney q.price && fits 1 q.category && fits 1 q.adultOnly && fits 1 q.state)
  | .itemRead _ b => bodyForm 2 b (fits 2)
  | .outletSet _ b =>
    bodyForm 10 b (fun q =>
      fits 1 q.outlet && fits 2 q.rate && fitsMoney q.ceiling && fits 1 q.honoured && fits 2 q.timeout)
  | .outletRead _ b => bodyForm 1 b (fits 1)
  | .dayRoll _ b => bodyForm 0 b (fun _ => true)
  | .chargeRead _ b => bodyForm 4 b (fits 4)
  | .chargePosted _ b => bodyForm 4 b (fits 4)
  | .lineSet _ b =>
    bodyForm 4 b (fun q => fits 1 q.line && fits 1 q.rate && fits 1 q.enabled && fits 1 q.slowPermitted)
  | .lineRead _ b => bodyForm 2 b (fun q => fits 1 q.line && fits 1 q.clear)
  | .termBind _ b => bodyOpen b (fun q => termWire q.term && q.binding.form)
  | .termEnable _ b => bodyForm 2 b termWire
  | .termDisable _ b => bodyForm 2 b termWire
  | .termRead _ b => bodyForm 2 b termWire
  | .logMode _ b => bodyForm 1 b (fits 1)
  | .logRead _ b => bodyForm 0 b (fun _ => true)
  | .noticeLevel _ b => bodyForm 2 b (fun q => fits 1 q.cls && fits 1 q.level)
  | .clockSet _ b => bodyForm 5 b (fun q => fits 2 q.day && fits 3 q.sec)
  | .partStatus _ b => bodyForm 1 b (fits 1)
  | .partClear _ b => bodyForm 0 b (fun _ => true)
  | .partReset _ b => bodyForm 0 b (fun _ => true)
  | .unknownKindRequest _ kind length => unknownKindForm kind && bodyFits length
  | .hostPause => true
  | .hostResume => true
  | .hostRxByte _ => true
  | .rxGapTimeout => true
  | .rxIdleTimeout => true
  | .txFrameBegin => true
  | .clockSecond => true
  | .fieldReply line frame => eightForm line && decide (frame.length ≤ 263)
  | .replyTimeout line => eightForm line
  | .replyGapTimeout line => eightForm line
  | .probeDue term => termForm term
  | .slowSweep line => eightForm line
  | .lineBreak line => eightForm line
  | .lineFaultCheck line _ => eightForm line
  | .doorPresent term serial => termForm term && presentedForm serial
  | .doorPrivacy term _ => termForm term
  | .doorContact term _ => termForm term
  | .openAck term => termForm term
  | .showAck term => termForm term
  | .overrideWindowExpiry term => termForm term
  | .holdExpiry term => termForm term
  | .ajarExpiry term => termForm term
  | .streakQuietExpiry term => termForm term
  | .gatePresent term serial => termForm term && presentedForm serial
  | .pacingTick lane => eightForm lane
  | .releaseAck term => termForm term
  | .revokeAck term => termForm term
  | .gatePassed term => termForm term
  | .firstGateTimeout lane => eightForm lane
  | .secondGateTimeout lane => eightForm lane
  | .stopInputChange _ _ => true
  | .barPurchase term serial lines =>
    termForm term && presentedForm serial && lines.all (fun l => fits 2 l.item && fits 1 l.qty)
  | .barKeyConfirm term => termForm term
  | .barKeyCancel term => termForm term
  | .quoteExpiry term => termForm term
  | .quoteAck term => termForm term
  | .resultAck term => termForm term
  | .lossOfSupply => true

end Sys2Proof
end

