-- ==== Sys2Proof/Certificates/Slice0/Obligations.lean ====
section
/-! DEFINITION. The statements about the part that are to be proved. A statement about a command gives the whole next
state as an equation, or a state that differs from the one before only in the fields its last clause puts back. -/

open Sys2Proof Sys2Proof.Machine

namespace Sys2Proof.Claims

/-! ## Words the statements share -/

/-- No serial of the index is this one. -/
abbrev NotIndexed (s : State) (x : Serial) : Prop := ∀ e ∈ s.register.index, e.1 ≠ x

/-- A serial has 4, 7 or 10 bytes (R2). -/
abbrev SerialLength (x : Serial) : Prop := x.length = 4 ∨ x.length = 7 ∨ x.length = 10

/-- 0 to 3 door numbers from 1 to 9,999, none twice (R2). -/
abbrev DoorsInRange (ds : List Nat) : Prop := ds.length ≤ 3 ∧ (∀ n ∈ ds, 1 ≤ n ∧ n ≤ 9999) ∧ ds.Nodup

/-- The record a CARD-ISSUE of any kind asks for, field by field: status ACTIVE, the fields the kind holds as supplied,
drinks 0, ABOARD, no trip, no conflict, no quote, no passage (R2, R13, R14). -/
def IssuesCard (q : CardIssueReq) (c : Card) : Prop :=
  SerialLength q.serial ∧
    ((∃ ds account adult package cap daily,
        q.kind = 1 ∧ q.doors = some ds ∧ q.account = some account ∧ q.adult = some (if adult then 1 else 0) ∧
          q.package = some (Package.num package) ∧ q.drinkCap = some (Int.ofNat cap) ∧ q.dailyCap = some daily ∧
          DoorsInRange ds ∧ account ≤ 512 ∧ cap ≤ 5000 ∧ daily ≤ 30 ∧
          c = { status := .active, kind := .guest, serial := q.serial, role := none, sect := none, window := none
                doors := ds, account, adult, package, drinkCap := cap, dailyCap := daily, drinksUsed := 0
                drinksHeld := 0, presence := .aboard, trip := 0, conflict := none, quote := none, passage := none }) ∨
      (∃ ds sect window,
        q.kind = 2 ∧ q.role = some 1 ∧ q.sect = some sect ∧ q.window = some window ∧ q.doors = some ds ∧
          DoorsInRange ds ∧ sect ≤ 63 ∧ window.start ≤ 1439 ∧ window.stop ≤ 1439 ∧
          c = { status := .active, kind := .crew, serial := q.serial, role := some .attendant, sect := some sect
                window := some window, doors := ds, account := 0, adult := false, package := .noPackage, drinkCap := 0
                dailyCap := 0, drinksUsed := 0, drinksHeld := 0, presence := .aboard, trip := 0, conflict := none
                quote := none, passage := none }) ∨
      (∃ ds role,
        q.kind = 2 ∧ role ≠ Role.attendant ∧ q.role = some (Role.num role) ∧ q.doors = some ds ∧ DoorsInRange ds ∧
          c = { status := .active, kind := .crew, serial := q.serial, role := some role, sect := none, window := none
                doors := ds, account := 0, adult := false, package := .noPackage, drinkCap := 0, dailyCap := 0
                drinksUsed := 0, drinksHeld := 0, presence := .aboard, trip := 0, conflict := none, quote := none
                passage := none }) ∨
      (q.kind = 3 ∧
        c = { status := .active, kind := .master, serial := q.serial, role := none, sect := none, window := none
              doors := [], account := 0, adult := false, package := .noPackage, drinkCap := 0, dailyCap := 0
              drinksUsed := 0, drinksHeld := 0, presence := .aboard, trip := 0, conflict := none, quote := none
              passage := none }))

/-- A manifest with the one unreturned entry of a record marked returned (R39). -/
def MarksReturned (record : Nat) (byCorrection : Bool) (m m' : List ManifestEntry) : Prop :=
  ∃ before e after, m = before ++ e :: after ∧ e.record = record ∧ e.returned = false ∧
    (∀ x ∈ before, x.record ≠ record ∨ x.returned = true) ∧
    m' = before ++ { e with returned := true, byCorrection := byCorrection } :: after

/-! ## What becomes of a state -/

/-- u is s after polls may have moved on: only the field lines differ, each terminal is the same but for its probe due,
each line keeps its settings and counters, and its state but for RUNNING and SLOW (R167, R168). -/
def PollsMoved (s u : State) : Prop :=
  { u with field := s.field } = s ∧
    (∀ x, { u.term x with probeDue := none } = { s.term x with probeDue := none }) ∧
    (∀ l, (u.line l).rate = (s.line l).rate ∧ (u.line l).enabled = (s.line l).enabled ∧
      (u.line l).slowPermitted = (s.line l).slowPermitted ∧ (u.line l).badCheck = (s.line l).badCheck ∧
      (u.line l).truncated = (s.line l).truncated ∧ (u.line l).wrongAddress = (s.line l).wrongAddress ∧
      (u.line l).noReply = (s.line l).noReply ∧
      ((u.line l).state = (s.line l).state ∨
        ((u.line l).state = .running ∨ (u.line l).state = .slow) ∧
          ((s.line l).state = .running ∨ (s.line l).state = .slow)))

/-- A terminal with a command placed: the toggle flips, an unknown one becoming 1, and the command is outstanding
(R159). -/
def commanded (x : Terminal) (c : Command) : Terminal :=
  { x with toggle := some (!x.toggle.getD false), outstanding := some c }

/-- An account written with its warning evaluated by R99, and the notice of a change (R98 to R100). -/
def accountWritten (n : Nat) (a : Account) (cause : Nat) (s : State) : State :=
  let exposure : Int := a.balance + a.pending + a.held
  let limit : Int := a.limit
  let warning : Bool :=
    if 0 < a.limit then
      if limit * 9 ≤ exposure * 10 then true else if exposure * 5 < limit * 4 then false else a.warning
    else decide (0 < exposure)
  let t := { s with store := { s.store with accounts := s.store.accounts.insert n { a with warning } } }
  if warning = a.warning then t
  else
    raise (if warning then .warningSet else .warningCleared) [.num (some n), .money exposure, .money limit, .u1 cause] t

/-- The conflict of a counted record set, with its notice (R28). -/
def conflictSetTo (n : Nat) (c : Card) (r : ConflictReason) (source : List Field) (s : State) : State :=
  raise .conflictSet ([.num (some n), .u1 r.num] ++ source)
    { s with
      register := { s.register with cards := s.register.cards.insert n { c with conflict := some r } }
      presence :=
        { s.presence with conflicts := if c.conflict.isSome then s.presence.conflicts else s.presence.conflicts + 1 } }

/-- A record written with its conflict cleared, with the notice of a set one and its cause (1 PASSAGE, 2
PRESENCE-SET, 3 CONFLICT-CLEAR), and the presence unit's counts and trips as given (R29). -/
def presenceMoved (n : Nat) (c : Card) (cause : Nat) (u : PresenceUnit) (s : State) : State :=
  let t :=
    { s with
      register := { s.register with cards := s.register.cards.insert n { c with conflict := none } }
      presence := { u with conflicts := if c.conflict.isSome then u.conflicts - 1 else u.conflicts } }
  if c.conflict.isSome then raise .conflictCleared [.num (some n), .u1 cause] t else t

/-- A trip whose manifest has changed: COMPLETE where it was AFLOAT and no entry is left unreturned (R39). -/
def settledTrip (tr : Trip) (m : List ManifestEntry) : Trip :=
  { tr with manifest := m, state := if tr.state = .afloat ∧ m.all (·.returned) then .complete else tr.state }

/-- A passage ended: the notice of its outcome, and the lane without it (R69, R70). That the notice has the byte of the
reason for an outcome other than CANCELLED too, marked absent, is the model's choice (log 51). -/
def passageEnded (n : Nat) (p : Passage) (o : PassageOutcome) (s : State) : State :=
  (raise o.notice
    [.u1 n, .num (some p.card), .u1 p.direction.num, .trip p.trip, .u1 o.num, .code (o.reason.map Code.num),
      .u1 p.state.num] s).setLane n { s.lane n with passage := none }

/-- A card record with its passage field none. -/
def cardFreed (n : Nat) (c : Card) (s : State) : State :=
  { s with register := { s.register with cards := s.register.cards.insert n { c with passage := none } } }

/-- A QUOTE or RESULT delivered: placed where the terminal is free and nothing waits, else it waits in place of whatever
waited (R114). -/
def delivered (t : TermId) (c : Command) (s : State) : State :=
  match s.slot? t with
  | none => s
  | some y =>
    if (s.term t).outstanding = none ∧ y.waiting = none then s.setTerm t (commanded (s.term t) c)
    else s.setSlot t { y with waiting := some c }

/-- A terminal's quote released: held sum, drinks held, reserved place, quote field and slot (R130). -/
def quoteReleased (t : TermId) (y : Slot) (q : Quote) (c : Card) (a : Account) (s : State) : State :=
  let w := accountWritten q.account { a with held := a.held - q.total } 3 s
  ({ w with
    register :=
      { w.register with
        cards := w.register.cards.insert q.card { c with drinksHeld := c.drinksHeld - q.drinks, quote := none } }
    posting := { w.posting with reserved := w.posting.reserved - 1 } }).setSlot t { y with quote := none }

/-! ## The stop inputs (R66, R67) -/

/-- The level at a stop input's pin. -/
def pinLevel (i : StopInput) (s : State) : Bool := if i = .stopA then s.pins.stopA else s.pins.stopB

/-- A stop input's debouncer. -/
def debouncer (i : StopInput) (s : State) : Debounce := if i = .stopA then s.stops.stopA else s.stops.stopB

/-- A stop input's debouncer written. -/
def debounced (i : StopInput) (d : Debounce) (s : State) : State :=
  { s with stops := if i = .stopA then { s.stops with stopA := d } else { s.stops with stopB := d } }

/-- The debounced level of a stop input has changed: the notice names the linked lanes, the entry the new level, and an
assertion cancels the waiting passages of those lanes, in rising order (R66, R67; the order is the model's choice, log
15). -/
def stopChangedTo (i : StopInput) (asserted : Bool) (s : State) : State :=
  let lanes := ((List.range 8).map (· + 1)).filter (fun n => (s.lane n).stopLinked = some i)
  let told := writeEntry .stop none none (some (.stop asserted)) [.stopInput i]
    (raise (if asserted then .stopAsserted else .stopReleased)
      ([.u1 (if i = .stopA then 1 else 2), .u1 lanes.length] ++ lanes.map Field.u1)
      (debounced i { asserted, last := some asserted } s))
  if asserted then
    lanes.foldl
      (fun x n =>
        match (x.lane n).passage with
        | none => x
        | some p =>
          if p.state = .waitingPace then
            passageEnded n p (.cancelled .stopped)
              (match x.card? p.card with
                | some c => cardFreed p.card c x
                | none => x)
          else x) told
  else told

/-- One sample of a stop input: one that disagrees with the sample before only becomes the last one read; the second of
two that agree changes the level, unless it is the level held (R66). -/
def sampled (i : StopInput) (s : State) : State :=
  if (debouncer i s).last ≠ some (pinLevel i s) then
    debounced i { debouncer i s with last := some (pinLevel i s) } s
  else if (debouncer i s).asserted = pinLevel i s then s
  else stopChangedTo i (pinLevel i s) s

end Sys2Proof.Claims

open Sys2Proof.Claims

/-! ## The machine -/

/-- A step takes the command at the front of the queue and runs it with the rest. -/
def Obligations.StepRunsFrontCommand : Prop :=
  ∀ (c : Instr) (cs : List Instr) (s : State), s.pending = c :: cs → step s = exec c (s.withPending cs)

/-- With no command waiting a millisecond passes and every tenth one samples both stop inputs: a sample that disagrees with
the one before is only remembered, two that agree change the level with all that follows, a settled input changes nothing
(R66, R67); a part without its supply takes no command but power-on. That time passes so, STOP-A is sampled first, an
asserted input's lanes go in rising order and an unpowered part takes nothing is the model's choice (logs 4, 15 and 18). -/
def Obligations.EmptyQueueAndUnpoweredSteps : Prop :=
  (∀ s : State, s.pending = [] →
     (s.powered = false → step s = .next s) ∧
     (s.powered = true → (s.now + 1) % 10 ≠ 0 → step s = .next { s with now := s.now + 1 }) ∧
     (s.powered = true → (s.now + 1) % 10 = 0 →
       step s = .next (sampled .stopB (sampled .stopA { s with now := s.now + 1 })))) ∧
  (∀ (c : Instr) (s : State), s.powered = false → (∀ fails straps, c ≠ .powerOn fails straps) → exec c s = .next s)

/-! ## Starts -/

namespace Sys2Proof.Claims

/-- The host link rate of each position of the straps (R202). -/
def strapRate (x : Straps) : LinkRate :=
  if x.rate1 then (if x.rate0 then .b921600 else .b460800) else (if x.rate0 then .b230400 else .b115200)

end Sys2Proof.Claims

/-- Power-on over a store whose five groups all fail their check: whatever the state before, every group is initialised,
every loss flag set, the clock UNSET, the link rate taken from the straps, and START is the one notice queued (R188, R201,
R202). That the time base is 0 and nothing is in progress is the model's choice (logs 1, 6 and 38). -/
def Obligations.PowerOnOverLostStore : Prop :=
  ∀ (straps : Straps) (s : State),
    exec (.powerOn ⟨true, true, true, true, true⟩ straps) s =
      .next { State.reset with
        pending := s.pending, choice := s.choice
        pins := { stopA := s.pins.stopA, stopB := s.pins.stopB, straps }
        startup := { kind := .powerOn, loss := ⟨true, true, true, true, true⟩, rate := strapRate straps } }

namespace Sys2Proof.Claims

/-- The PART-RESET reply is the frame being sent, its warm reset waiting (R187). -/
def ResetReplySending (s : State) : Prop :=
  s.link.resetWaiting = true ∧ ∃ r, s.link.sending = some (.reply r) ∧ r.kind = 0x6C ∧ r.status = .ok

/-- The part after its store check: each group that fails stands as it does at State.reset, and its loss flag is set beside
those that stood; group B lost with group A kept leaves every card without an account (R201). Group A is the register and
the presence unit, B accounts and posting queue, C items and outlets, D settings, levels, log mode and bindings, E the log. -/
def storeChecked (f : Groups) (s : State) : State :=
  { s with
    register :=
      if f.a then State.reset.register
      else if f.b then { s.register with cards := s.register.cards.map (fun p => (p.1, { p.2 with account := 0 })) }
      else s.register
    presence := if f.a then State.reset.presence else s.presence
    store :=
      { accounts := if f.b then [] else s.store.accounts, items := if f.c then [] else s.store.items
        outlets := if f.c then [] else s.store.outlets }
    posting := if f.b then State.reset.posting else s.posting
    lanes := if f.d then [] else s.lanes
    doors := if f.d then State.reset.doors else s.doors
    slots := if f.d then [] else s.slots
    field := if f.d then State.reset.field else s.field
    notices := if f.d then { s.notices with levels := State.reset.notices.levels } else s.notices
    log :=
      { (if f.e then State.reset.log else s.log) with mode := if f.d then State.reset.log.mode else s.log.mode }
    startup :=
      { s.startup with
        loss :=
          { a := s.startup.loss.a || f.a, b := s.startup.loss.b || f.b, c := s.startup.loss.c || f.c
            d := s.startup.loss.d || f.d, e := s.startup.loss.e || f.e } } }

/-- A terminal at a start: its binding and enabled as they were, all else as R171 gives it. -/
def terminalStarted (x : Terminal) : Terminal :=
  { binding := x.binding, enabled := x.enabled, online := if x.enabled then .probing else .disabled, kindSeen := none
    misses := 0, toggle := none, outstanding := none, eventToggle := none, more := false, probeDue := none }

/-- A line at a start, before its first poll: its settings as they were, all else as R171 gives it. -/
def lineStarted (x : Line) : Line :=
  { rate := x.rate, enabled := x.enabled, slowPermitted := x.slowPermitted
    state := if x.enabled then .running else .stopped
    badCheck := 0, truncated := 0, wrongAddress := 0, noReply := 0, roundPos := 1, priorityRun := 0, exchange := none
    inSweep := false, sweepEvent := false, slowLeft := [] }

/-- A door record at a start or at its binding, field by field (R76); that it has no time of a counted refusal is the model's
choice (log 39). -/
def doorStarted (number sect : Nat) : Door :=
  { number, sect, privacy := false, contact := .unknown, openSince := none, alarm := .noAlarm, window := none, streak := 0
    streakTime := none, hold := none, battery := .unknown, run := none, lastOpen := none, hostOpen := false, ajar := none
    openCard := none }

/-- What a start leaves of the part s after its store check: the stored groups as they stand, quotes and passages gone with
what they reserved, a dropped passage's card in conflict and counted, the pacing timers at zero, a new slot or door record
for each terminal bound BAR or DOOR, every terminal as at a start, each enabled line with its round poll of the lowest
PROBING terminal under way, an empty link, and START queued, alone where no card, account or backlog has a notice of its
own (R5, R48, R72, R76, R112, R136, R148, R171, R188, R197). That no frame is being sent, and that a new door record has no
time of a refusal, is the model's choice (logs 38 and 39). -/
def RestartedFrom (s t : State) : Prop :=
  (∀ n, t.card? n = (s.card? n).map (fun c =>
    { c with
      quote := none, drinksHeld := 0, passage := none
      conflict := if c.passage.isSome ∧ c.kind ≠ .master then some .uncertainPassage else c.conflict })) ∧
  t.register.index = s.register.index ∧ t.register.withdrawn = s.register.withdrawn ∧
  t.presence.trips = s.presence.trips ∧ t.presence.aboard = s.presence.aboard ∧ t.presence.ashore = s.presence.ashore ∧
  t.presence.call = s.presence.call ∧ t.presence.leftBehind = s.presence.leftBehind ∧
  t.presence.conflicts = s.presence.conflicts +
    (s.register.cards.filter
      (fun p => p.2.passage.isSome ∧ p.2.kind ≠ .master ∧ p.2.conflict = none)).length ∧
  (∀ n, 1 ≤ n → n ≤ 8 → (t.lane n).passage = none ∧ (t.lane n).pacingStart = t.now ∧
    { t.lane n with passage := none, trip := 0, pacingStart := 0 } =
      { s.lane n with passage := none, trip := 0, pacingStart := 0 } ∧
    (∀ k, (t.lane n).trip = k → k ≠ 0 → ∃ r, s.trip? k = some r ∧ r.state = .loading ∧ r.lane = n) ∧
    (∀ k r, s.trip? 0 = none → s.trip? k = some r → r.state = .loading → r.lane = n → (t.lane n).trip ≠ 0)) ∧
  (∀ n, t.account? n = (s.account? n).map (fun a => { a with held := 0, warning := ({ a with held := 0 } : Account).evaluated })) ∧
  t.store.items = s.store.items ∧ t.store.outlets = s.store.outlets ∧
  t.posting = { s.posting with reserved := 0 } ∧ t.log = s.log ∧ t.notices.levels = s.notices.levels ∧
  t.doors.settings = s.doors.settings ∧ t.stops = Stops.initial ∧ t.link = Link.initial ∧
  (∀ x, t.term x = terminalStarted (s.term x) ∧
    t.slot? x =
      (match (s.term x).binding with
      | .bar o => some { outlet := o, quote := none, waiting := none }
      | _ => none) ∧
    t.door? x =
      (match (s.term x).binding with
      | .door n k => some (doorStarted n k)
      | _ => none)) ∧
  (∀ l, (t.line l).rate = (s.line l).rate ∧ (t.line l).enabled = (s.line l).enabled ∧
    (t.line l).slowPermitted = (s.line l).slowPermitted ∧
    (t.line l).state = (if (s.line l).enabled then .running else .stopped)) ∧
  (∀ l, 1 ≤ l → l ≤ 8 →
    ((s.line l).enabled = false ∨ (∀ a, 1 ≤ a → a ≤ 31 → (s.term ⟨l, a⟩).enabled = false) →
      t.line l = lineStarted (s.line l)) ∧
    (∀ a, (s.line l).enabled = true → 1 ≤ a → a ≤ 31 → (s.term ⟨l, a⟩).enabled = true →
      (∀ b, 1 ≤ b → b < a → (s.term ⟨l, b⟩).enabled = false) →
      t.line l =
        { lineStarted (s.line l) with
          roundPos := a % 31 + 1, inSweep := true
          exchange :=
            some { addr := a, command := none, toggle := false, ack := false, ackValid := false, stale := false } })) ∧
  t.startup.loss = s.startup.loss ∧ t.pending = s.pending ∧ t.choice = s.choice ∧
  ((∀ n c, s.card? n = some c → c.passage = none) →
    (∀ n a, s.account? n = some a → ({ a with held := 0 } : Account).evaluated = a.warning) → s.posting.high = false →
    t.notices.dropped = 0 ∧
      t.notices.queue =
        if s.notices.levels.part = 0 then []
        else
          [{ name := .start, level := s.notices.levels.part, time := t.clock
             content :=
               [.u1 (if t.startup.kind = .powerOn then 1 else 2), .flag s.startup.loss.a, .flag s.startup.loss.b,
                 .flag s.startup.loss.c, .flag s.startup.loss.d, .flag s.startup.loss.e] }])

end Sys2Proof.Claims

/-- Power-on and warm reset, whichever groups fail their check: the groups that pass are kept, those that fail initialised
with their loss flag set, and what no group keeps is dropped; warm reset acts as power-on does, but that the ship clock keeps
its value; it is taken when the PART-RESET reply has been sent and at no other time; each takes the link rate from the straps
(R5, R48, R72, R76, R112, R136, R148, R171, R187, R188, R197, R201, R202). That power-on sets the time base to 0, warm reset
keeps it, no frame is being sent after a start and a new door record has no refusal time is the model's choice (logs 6, 19,
38 and 39). -/
def Obligations.StartsKeepIntactGroups : Prop :=
  (∀ (fails : Groups) (straps : Straps) (s : State), Canonical s →
     ∃ t, exec (.powerOn fails straps) s = .next t ∧ RestartedFrom (storeChecked fails s) t ∧
       t.powered = true ∧ t.clock = none ∧ t.now = 0 ∧ t.startup.kind = .powerOn ∧ t.startup.rate = strapRate straps ∧
       t.pins = { s.pins with straps }) ∧
  (∀ (fails : Groups) (straps : Straps) (s : State), Canonical s → s.powered = true → ResetReplySending s →
     ∃ t, exec (.warmReset fails straps) s = .next t ∧ RestartedFrom (storeChecked fails s) t ∧
       t.powered = true ∧ t.clock = s.clock ∧ t.now = s.now ∧ t.startup.kind = .warm ∧
       t.startup.rate = strapRate straps ∧ t.pins = { s.pins with straps }) ∧
  (∀ (fails : Groups) (straps : Straps) (s : State), ¬ ResetReplySending s →
     exec (.warmReset fails straps) s = .next s)

/-- The loss of the supply stops the part and keeps what the store groups keep: register, presence, lane settings, door
settings, line settings, bindings, accounts, items, outlets, posting queue, notice levels and log (R201). That what no group
keeps is dropped at the loss, not at the next start, is the model's choice (log 18). -/
def Obligations.LossOfSupplyStopsPart : Prop :=
  ∀ s : State, s.powered = true →
    ∃ t, exec .lossOfSupply s = .next t ∧ t.powered = false ∧ t.clock = none ∧ t.link = Link.initial ∧
      t.notices = { queue := [], dropped := 0, levels := s.notices.levels } ∧ t.log = s.log ∧
      t.posting = { s.posting with reserved := 0 } ∧ t.presence = s.presence ∧
      t.register.index = s.register.index ∧ t.register.withdrawn = s.register.withdrawn ∧
      (∀ n, t.card? n = (s.card? n).map (fun c => { c with quote := none, drinksHeld := 0 })) ∧
      (∀ n, t.account? n = (s.account? n).map (fun a => { a with held := 0 })) ∧
      t.store.items = s.store.items ∧ t.store.outlets = s.store.outlets ∧ t.doors.settings = s.doors.settings ∧
      t.startup = s.startup ∧ t.pins = s.pins ∧ t.now = s.now ∧ t.pending = s.pending ∧
      (Canonical s →
        (∀ n, t.lane n = { s.lane n with passage := none }) ∧
        (∀ l, (t.line l).rate = (s.line l).rate ∧ (t.line l).enabled = (s.line l).enabled ∧
          (t.line l).slowPermitted = (s.line l).slowPermitted) ∧
        (∀ x, (t.term x).binding = (s.term x).binding ∧ (t.term x).enabled = (s.term x).enabled))

/-! ## The card register -/

/-- CARD-ISSUE of any kind of card: the lowest VACANT record is written and indexed, its serial leaves the withdrawn
list, a GUEST or CREW card is counted ABOARD, and the reply carries the record; in range, it is refused for an account
that is not OPEN, then for a serial of the index, then for want of a record (R13, R14). -/
def Obligations.CardIssueTakesLowestVacant : Prop :=
  ∀ (tag : Byte) (len : Nat) (q : CardIssueReq) (c : Card) (s : State), Ready s len → IssuesCard q c →
    (let run := exec (.cardIssue tag ⟨len, some q⟩) s
    (c.account ≠ 0 → s.account? c.account = none → run = .next (replied 0x10 tag .notFound [] s)) ∧
    (c.account = 0 ∨ (s.account? c.account).isSome →
      (¬ NotIndexed s q.serial → run = .next (replied 0x10 tag .alreadyExists [] s)) ∧
      (NotIndexed s q.serial → (∀ m, m < 1024 → (s.card? m).isSome) → run = .next (replied 0x10 tag .full [] s)) ∧
      (NotIndexed s q.serial →
        ∀ n, n < 1024 → s.card? n = none → (∀ m, m < n → (s.card? m).isSome) →
          run = .next (replied 0x10 tag .ok [.num (some n)] { s with
            register :=
              { cards := s.register.cards.insert n c, index := s.register.index ++ [(q.serial, n)]
                withdrawn := s.register.withdrawn.filter (fun x => x ≠ q.serial) }
            presence :=
              if c.kind = .master then s.presence else { s.presence with aboard := s.presence.aboard + 1 } }))))

/-- CARD-REISSUE of a card without work in flight that it would end (what it ends: CardStatusEndsWorkInFlight): the index
and the withdrawn list change in the order of R8, the record keeps every other field (R15). -/
def Obligations.CardReissueSwapsSerials : Prop :=
  ∀ (tag : Byte) (len record : Nat) (serial : Serial) (c : Card) (s : State), Ready s len → SerialLength serial →
    record < 1024 → s.card? record = some c → NotIndexed s serial → c.quote = none →
    (∀ n p, c.passage = some n → (s.lane n).passage = some p → p.state ≠ .waitingPace) →
    exec (.cardReissue tag ⟨len, some ⟨record, serial⟩⟩) s =
      .next (replied 0x11 tag .ok [.num (some record), .serial serial] { s with
        register :=
          { cards := s.register.cards.insert record { c with serial }
            index := (s.register.index.filter (fun e => e.1 ≠ c.serial)) ++ [(serial, record)]
            withdrawn :=
              let w := s.register.withdrawn.filter (fun x => x ≠ serial)
              (if w.length < 256 then w else w.drop 1) ++ [c.serial] } })

/-- CARD-STATUS to ACTIVE, or to SUSPENDED or LOST for a card without work in flight that it would end: the status is
written and nothing else (R17). -/
def Obligations.CardStatusWritesStatus : Prop :=
  ∀ (tag : Byte) (len record : Nat) (v : CardStatus) (c : Card) (s : State), Ready s len → record < 1024 →
    s.card? record = some c →
    (v = .active ∨ (c.quote = none ∧
      ∀ n p, c.passage = some n → (s.lane n).passage = some p → p.state ≠ .waitingPace)) →
    exec (.cardStatus tag ⟨len, some ⟨record, v.num⟩⟩) s =
      .next (replied 0x12 tag .ok [.u1 v.num] { s with
        register := { s.register with cards := s.register.cards.insert record { c with status := v } } })

namespace Sys2Proof.Claims

/-- A request that ends a card's work in flight: CARD-STATUS to SUSPENDED or LOST, or CARD-REISSUE to a serial that is not
indexed, with its reply, the reason passed on, the card record and the register as the request itself writes them (R8, R15
to R17). -/
def EndsWork (tag : Byte) (len record : Nat) (c : Card) (s : State) (i : Instr) (reply : State → State) (reason : Code)
    (d : Card) (r : Register) : Prop :=
  (∃ v, ((v = CardStatus.suspended ∧ reason = .suspended) ∨ (v = .lost ∧ reason = .lost)) ∧
    i = .cardStatus tag ⟨len, some ⟨record, v.num⟩⟩ ∧ reply = replied 0x12 tag .ok [.u1 v.num] ∧
    d = { c with status := v } ∧ r = { s.register with cards := s.register.cards.insert record d }) ∨
  (∃ x, SerialLength x ∧ NotIndexed s x ∧ i = .cardReissue tag ⟨len, some ⟨record, x⟩⟩ ∧ reason = .reissued ∧
    reply = replied 0x11 tag .ok [.num (some record), .serial x] ∧ d = { c with serial := x } ∧
    r =
      { cards := s.register.cards.insert record d
        index := (s.register.index.filter (fun e => e.1 ≠ c.serial)) ++ [(x, record)]
        withdrawn :=
          let w := s.register.withdrawn.filter (fun y => y ≠ x)
          (if w.length < 256 then w else w.drop 1) ++ [c.serial] })

end Sys2Proof.Claims

/-- CARD-STATUS to SUSPENDED or LOST, and CARD-REISSUE, end a waiting passage CANCELLED with that status or REISSUED as the
reason, the card freed, the lane left without a passage, a PASSAGE notice raised and no gate command placed; and void the
card's quote, its reservations released together and RESULT VOIDED with the reason delivered, at once or as the waiting
command (R15 to R17, R65, R69, R130, R131). -/
def Obligations.CardStatusEndsWorkInFlight : Prop :=
  (∀ (tag : Byte) (len record lane : Nat) (i : Instr) (reply : State → State) (reason : Code) (c d : Card) (r : Register)
     (p : Passage) (s : State),
     Ready s len → record < 1024 → s.card? record = some c → c.quote = none → c.passage = some lane →
     1 ≤ lane → lane ≤ 8 → (s.lane lane).passage = some p → p.card = record → p.state = .waitingPace →
     EndsWork tag len record c s i reply reason d r →
     exec i s =
       .next (reply (passageEnded lane p (.cancelled reason) (cardFreed record d { s with register := r })))) ∧
  (∀ (tag : Byte) (len record : Nat) (i : Instr) (reply : State → State) (reason : Code) (t : TermId) (c d : Card)
     (r : Register) (x : Slot) (q : Quote) (a : Account) (s : State),
     Ready s len → record < 1024 → s.card? record = some c → c.quote = some t → c.passage = none →
     validTerm t = true → s.slot? t = some x → x.quote = some q → q.card = record → s.account? q.account = some a →
     (s.term t).online = .online → EndsWork tag len record c s i reply reason d r →
     ∃ u, exec i s = .next (reply u) ∧
       PollsMoved (delivered t (.result (.voided reason)) (quoteReleased t x q d a { s with register := r })) u)

namespace Sys2Proof.Claims

/-- CARD-SET answers OK, the record is written and nothing else, and the reply carries it as CARD-READ then gives it
(R19, R22). -/
def CardWritten (tag : Byte) (len : Nat) (q : CardSetReq) (c : Card) (s : State) : Prop :=
  let w := { s with register := { s.register with cards := s.register.cards.insert q.record c } }
  ∃ body, exec (.cardSet tag ⟨len, some q⟩) s = .next (replied 0x13 tag .ok body w) ∧
    exec (.cardRead tag ⟨len, some q.record⟩) w = .next (replied 0x15 tag .ok body w)

end Sys2Proof.Claims

/-- CARD-SET in range: every present field that the kind holds is written, a daily cap below drinks used plus held stored
as that sum, a role other than ATTENDANT drops section and window, and a MASTER record stays as it is; with a quote open,
another value in a field that the quote was reserved from is refused BUSY (R18, R19, R3). -/
def Obligations.CardSetWritesPresentFields : Prop :=
  ∀ (tag : Byte) (len : Nat) (q : CardSetReq) (c : Card) (s : State), Ready s len → q.record < 1024 →
    s.card? q.record = some c → (∀ ds, q.doors = some ds → DoorsInRange ds) →
    (c.kind = .guest → c.role = none → c.sect = none → c.window = none →
      ∀ (adult : Option Bool) (package : Option Package) (cap : Option Nat),
        q.adult = adult.map (fun b => if b then 1 else 0) → q.package = package.map Package.num →
        q.drinkCap = cap.map Int.ofNat → (∀ n, cap = some n → n ≤ 5000) → (∀ n, q.dailyCap = some n → n ≤ 30) →
        (∀ n, q.account = some n → n ≤ 512 ∧ (n = 0 ∨ (s.account? n).isSome)) →
        (let changes :=
          (∃ n, q.account = some n ∧ n ≠ c.account) ∨ (∃ b, adult = some b ∧ b ≠ c.adult) ∨
            (∃ k, package = some k ∧ k ≠ c.package) ∨ (∃ n, cap = some n ∧ n ≠ c.drinkCap) ∨
            (∃ n, q.dailyCap = some n ∧ n ≠ c.dailyCap)
        (c.quote.isSome → changes →
          exec (.cardSet tag ⟨len, some q⟩) s = .next (replied 0x13 tag .busy [] s)) ∧
        (c.quote = none ∨ ¬ changes →
          CardWritten tag len q
            { c with
              doors := q.doors.getD c.doors, account := q.account.getD c.account, adult := adult.getD c.adult
              package := package.getD c.package, drinkCap := cap.getD c.drinkCap
              dailyCap := (q.dailyCap.map (fun n => max n (c.drinksUsed + c.drinksHeld))).getD c.dailyCap } s))) ∧
    (c.kind = .crew →
      ∀ role : Option Role, q.role = role.map Role.num → (∀ n, q.sect = some n → n ≤ 63) →
        (∀ w, q.window = some w → w.start ≤ 1439 ∧ w.stop ≤ 1439) →
        (role = some .attendant → c.role ≠ some .attendant → q.sect.isSome ∧ q.window.isSome) →
        CardWritten tag len q
          { c with
            role := role.or c.role
            sect := if role.or c.role = some .attendant then q.sect.or c.sect else none
            window := if role.or c.role = some .attendant then q.window.or c.window else none
            doors := q.doors.getD c.doors } s) ∧
    (c.kind = .master → c.role = none → c.sect = none → c.window = none → CardWritten tag len q c s)

/-- CARD-VACATE of a card without quote or passage: a card ABOARD, a card ASHORE in SAILING (with its manifest entry) and
a MASTER card; a card ASHORE in port is refused ASHORE, one with work in flight BUSY (R20, R21). -/
def Obligations.CardVacateFreesRecord : Prop :=
  ∀ (tag : Byte) (len record : Nat) (c : Card) (s : State), Ready s len → record < 1024 → s.card? record = some c →
    (let register : Register :=
      { cards := s.register.cards.erase record
        index := s.register.index.filter (fun e => e.1 ≠ c.serial)
        withdrawn :=
          (if s.register.withdrawn.length < 256 then s.register.withdrawn else s.register.withdrawn.drop 1) ++ [c.serial] }
    let conflicts := if c.conflict.isSome then s.presence.conflicts - 1 else s.presence.conflicts
    let run := exec (.cardVacate tag ⟨len, some record⟩) s
    (c.quote.isSome ∨ c.passage.isSome → run = .next (replied 0x14 tag .busy [] s)) ∧
    (c.quote = none → c.passage = none →
      (c.kind = .master → run = .next (replied 0x14 tag .ok [.num (some record)] { s with register })) ∧
      (c.kind ≠ .master → c.presence = .aboard →
        run = .next (replied 0x14 tag .ok [.num (some record)] { s with
          register, presence := { s.presence with aboard := s.presence.aboard - 1, conflicts } })) ∧
      (c.kind ≠ .master → c.presence = .ashore → s.presence.call ≠ .sailing →
        run = .next (replied 0x14 tag .ashore [] s)) ∧
      (c.kind ≠ .master → c.presence = .ashore → s.presence.call = .sailing → c.trip = 0 →
        run = .next (replied 0x14 tag .ok [.num (some record)] { s with
          register
          presence :=
            { s.presence with
              ashore := s.presence.ashore - 1, conflicts
              leftBehind := s.presence.leftBehind.filter (fun n => n ≠ record) } })) ∧
      (c.kind ≠ .master → c.presence = .ashore → s.presence.call = .sailing →
        ∀ (tr : Trip) (m : List ManifestEntry), c.trip ≠ 0 → s.trip? c.trip = some tr →
          MarksReturned record true tr.manifest m →
          run = .next (replied 0x14 tag .ok [.num (some record)] { s with
            register
            presence :=
              { s.presence with
                ashore := s.presence.ashore - 1, conflicts
                leftBehind := s.presence.leftBehind.filter (fun n => n ≠ record)
                trips := s.presence.trips.insert c.trip
                  { tr with
                    manifest := m
                    state := if tr.state = .afloat ∧ m.all (·.returned) then .complete else tr.state } } }))))

/-- CARD-READ gives each field the record holds, in the order of R2, others marked absent; CARD-FIND gives the record and
status of an indexed serial, or whether the serial is withdrawn; neither changes anything (R22, R23). How a field without an
absent value is marked absent, and its width, is the model's choice (log 9). -/
def Obligations.CardReadAndFindReport : Prop :=
  (∀ (tag : Byte) (len record : Nat) (s : State), Ready s len → record < 1024 →
     (s.card? record = none → exec (.cardRead tag ⟨len, some record⟩) s = .next (replied 0x15 tag .ok [.u1 0] s)) ∧
     (∀ c, s.card? record = some c →
       (c.kind = .guest → c.role = none → c.sect = none → c.window = none →
         exec (.cardRead tag ⟨len, some record⟩) s = .next (replied 0x15 tag .ok
           ([.u1 c.status.num, .u1 1, .serial c.serial, .code none, .code none, .absent 2, .absent 2, .u1 c.doors.length] ++
             c.doors.map (fun n => .num (some n)) ++
             [.num (some c.account), .flag c.adult, .code (some c.package.num), .money c.drinkCap, .u1 c.dailyCap,
               .u1 c.drinksUsed, .u1 c.drinksHeld, .code (some c.presence.num), .trip c.trip,
               .code (some (conflictNum c.conflict)), .term c.quote, .code c.passage]) s)) ∧
       (c.kind = .crew →
         exec (.cardRead tag ⟨len, some record⟩) s = .next (replied 0x15 tag .ok
           ([.u1 c.status.num, .u1 2, .serial c.serial, .code (c.role.map Role.num), .code c.sect] ++
             (match c.window with
               | some w => [.u2 w.start, .u2 w.stop]
               | none => [.absent 2, .absent 2]) ++
             [.u1 c.doors.length] ++ c.doors.map (fun n => .num (some n)) ++
             [.num none, .absent 1, .code none, .absent 4, .absent 1, .absent 1, .absent 1,
               .code (some c.presence.num), .trip c.trip, .code (some (conflictNum c.conflict)), .term c.quote,
               .code c.passage]) s)) ∧
       (c.kind = .master → c.role = none → c.sect = none → c.window = none → c.quote = none → c.passage = none →
         exec (.cardRead tag ⟨len, some record⟩) s = .next (replied 0x15 tag .ok
           [.u1 c.status.num, .u1 3, .serial c.serial, .code none, .code none, .absent 2, .absent 2, .absent 1, .num none,
             .absent 1, .code none, .absent 4, .absent 1, .absent 1, .absent 1, .code none, .trip 0, .code none, .term none,
             .code none] s)))) ∧
  (∀ (tag : Byte) (len : Nat) (x : Serial) (s : State), Ready s len →
     (SerialLength x →
       (∀ n c, Indexed s → (x, n) ∈ s.register.index → s.card? n = some c →
         exec (.cardFind tag ⟨len, some x⟩) s = .next (replied 0x16 tag .ok [.num (some n), .u1 c.status.num] s)) ∧
       (NotIndexed s x →
         exec (.cardFind tag ⟨len, some x⟩) s =
           .next (replied 0x16 tag .notFound [.flag (decide (x ∈ s.register.withdrawn))] s))) ∧
     (¬ SerialLength x → exec (.cardFind tag ⟨len, some x⟩) s = .next (replied 0x16 tag .range [] s))) ∧
  (∀ (tag : Byte) (len record : Nat) (s : State), Ready s len → 1024 ≤ record →
     exec (.cardRead tag ⟨len, some record⟩) s = .next (replied 0x15 tag .range [] s))

/-! ## The presence unit -/

/-- PRESENCE-SET in the four cases of R46: a presence that changes moves the record, the tallies, the manifest entry and the
left-behind list, one that does not leaves them, and in each case a set conflict is cleared with its notice and the count
falls; CONFLICT-CLEAR clears a set conflict alone (R29, R45, R46). -/
def Obligations.PresenceSetAndConflictClear : Prop :=
  (∀ (tag : Byte) (len record : Nat) (c : Card) (s : State), Ready s len → record < 1024 → s.card? record = some c →
     c.kind ≠ .master → c.passage = none →
     (let run := fun v => exec (.presenceSet tag ⟨len, some ⟨record, v⟩⟩) s
     let u := s.presence
     let kept := if c.conflict = none then s else presenceMoved record c 2 u s
     let back := { u with
       aboard := u.aboard + 1, ashore := u.ashore - 1, leftBehind := u.leftBehind.filter (fun n => n ≠ record) }
     let home := { c with presence := .aboard, trip := 0 }
     (c.presence = .aboard → run 1 = .next (replied 0x20 tag .ok [.u1 1, .trip c.trip] kept)) ∧
     (u.call = .sailing → run 2 = .next (replied 0x20 tag .wrongState [] s)) ∧
     (u.call ≠ .sailing → c.presence = .ashore →
       run 2 = .next (replied 0x20 tag .ok [.u1 2, .trip c.trip] kept)) ∧
     (u.call ≠ .sailing → c.presence = .aboard →
       run 2 = .next (replied 0x20 tag .ok [.u1 2, .trip c.trip]
         (presenceMoved record { c with presence := .ashore } 2
           { u with aboard := u.aboard - 1, ashore := u.ashore + 1 } s))) ∧
     (c.presence = .ashore → c.trip = 0 →
       run 1 = .next (replied 0x20 tag .ok [.u1 1, .trip 0] (presenceMoved record home 2 back s))) ∧
     (c.presence = .ashore → ∀ (tr : Trip) (m : List ManifestEntry), c.trip ≠ 0 → s.trip? c.trip = some tr →
       MarksReturned record true tr.manifest m →
       run 1 = .next (replied 0x20 tag .ok [.u1 1, .trip 0]
         (presenceMoved record home 2 { back with trips := u.trips.insert c.trip (settledTrip tr m) } s))))) ∧
  (∀ (tag : Byte) (len record : Nat) (c : Card) (s : State), Ready s len → record < 1024 → s.card? record = some c →
     c.kind ≠ .master →
     (c.conflict = none →
       exec (.conflictClear tag ⟨len, some record⟩) s = .next (replied 0x21 tag .ok [] s)) ∧
     (c.conflict.isSome →
       exec (.conflictClear tag ⟨len, some record⟩) s =
         .next (replied 0x21 tag .ok [] (presenceMoved record c 3 s.presence s))))

/-- COUNT-READ, TRIP-READ and LEFT-READ give what R27, R40 and R44 list and change nothing. That a trip's lane after cast-off
is sent as 0, and the widths and order of fields that the rules give in words, are the model's choice (logs 49 and 11). -/
def Obligations.PresenceReadsChangeNothing : Prop :=
  ∀ (tag : Byte) (len : Nat) (s : State), Ready s len →
    (exec (.countRead tag ⟨len, some ()⟩) s = .next (replied 0x22 tag .ok
      [.u2 s.presence.aboard, .u2 s.presence.ashore, .u2 (s.presence.aboard + s.presence.ashore), .u2 s.presence.conflicts,
        .u1 s.presence.call.num, .u1 s.presence.trips.length,
        .u2 (1536 - (s.presence.trips.map (fun p => p.2.capacity)).sum), .u2 s.presence.leftBehind.length] s)) ∧
    (∀ trip start tr, 1 ≤ trip → trip ≤ 255 → s.trip? trip = some tr → start ≤ tr.manifest.length →
      exec (.tripRead tag ⟨len, some ⟨trip, start⟩⟩) s = .next (replied 0x26 tag .ok
        ([.trip trip, .u1 tr.boat, .u1 tr.capacity, .u1 tr.lane, .u1 tr.state.num, .u1 tr.manifest.length,
            .u1 (tr.manifest.filter (fun e => e.returned = false)).length,
            .u1 (min 32 (tr.manifest.length - start))] ++
          ((tr.manifest.drop start).take 32).flatMap (fun e =>
            [.num (some e.record), .time e.time, .flag e.returned, .flag e.byCorrection])) s)) ∧
    (∀ start, start ≤ s.presence.leftBehind.length →
      exec (.leftRead tag ⟨len, some start⟩) s = .next (replied 0x2A tag .ok
        ([.u2 s.presence.leftBehind.length, .u1 (min 255 (s.presence.leftBehind.length - start))] ++
          ((s.presence.leftBehind.drop start).take 255).map (fun n => .num (some n))) s))

/-- TRIP-OPEN makes a LOADING trip, draws its seats and attaches it to its lane; TRIP-CASTOFF frees the lane and makes the
trip AFLOAT, or COMPLETE without an unreturned entry; TRIP-CLEAR removes a COMPLETE trip and no other (R35, R36, R38). -/
def Obligations.TripOpensSailsAndClears : Prop :=
  (∀ (tag : Byte) (len trip boat capacity lane : Nat) (s : State), Ready s len → 1 ≤ trip → trip ≤ 255 → 1 ≤ boat →
     boat ≤ 16 → 1 ≤ capacity → capacity ≤ 150 → 1 ≤ lane → lane ≤ 8 → s.presence.call = .callOpen →
     s.trip? trip = none → s.presence.trips.length < 24 →
     (s.presence.trips.map (fun p => p.2.capacity)).sum + capacity ≤ 1536 → (s.lane lane).trip = 0 →
     (s.lane lane).passage = none →
     exec (.tripOpen tag ⟨len, some ⟨trip, boat, capacity, lane⟩⟩) s =
       .next (replied 0x23 tag .ok
         [.u2 (1536 - (s.presence.trips.map (fun p => p.2.capacity)).sum - capacity)]
         ({ s with presence := { s.presence with
             trips := s.presence.trips.insert trip { boat, capacity, lane, state := .loading, manifest := [] } } }.setLane
           lane { s.lane lane with trip := trip }))) ∧
  (∀ (tag : Byte) (len trip : Nat) (tr : Trip) (s : State), Ready s len → 1 ≤ trip → trip ≤ 255 →
     s.trip? trip = some tr →
     (tr.state = .loading → (s.lane tr.lane).passage = none →
       let unreturned := (tr.manifest.filter (fun e => e.returned = false)).length
       let after : TripState := if unreturned = 0 then .complete else .afloat
       exec (.tripCastoff tag ⟨len, some trip⟩) s =
         .next (replied 0x24 tag .ok [.u1 after.num, .u1 unreturned]
           ({ s with presence := { s.presence with
               trips := s.presence.trips.insert trip { tr with lane := 0, state := after } } }.setLane
             tr.lane { s.lane tr.lane with trip := 0 }))) ∧
     (tr.state ≠ .loading → exec (.tripCastoff tag ⟨len, some trip⟩) s = .next (replied 0x24 tag .wrongState [] s)) ∧
     (tr.state = .complete → Canonical s →
       exec (.tripClear tag ⟨len, some trip⟩) s =
         .next (replied 0x25 tag .ok
           [.u2 (1536 - ((s.presence.trips.erase trip).map (fun p => p.2.capacity)).sum)]
           { s with presence := { s.presence with trips := s.presence.trips.erase trip } })) ∧
     (tr.state ≠ .complete → exec (.tripClear tag ⟨len, some trip⟩) s = .next (replied 0x25 tag .wrongState [] s))) ∧
  (∀ (tag : Byte) (len trip : Nat) (s : State), Ready s len →
     let castoff := exec (.tripCastoff tag ⟨len, some trip⟩) s
     let clear := exec (.tripClear tag ⟨len, some trip⟩) s
     exec (.tripCastoff tag ⟨len, none⟩) s = .next (replied 0x24 tag .format [] s) ∧
     exec (.tripClear tag ⟨len, none⟩) s = .next (replied 0x25 tag .format [] s) ∧
     (trip = 0 ∨ 255 < trip →
       castoff = .next (replied 0x24 tag .range [] s) ∧ clear = .next (replied 0x25 tag .range [] s)) ∧
     (1 ≤ trip → trip ≤ 255 →
       (s.trip? trip = none →
         castoff = .next (replied 0x24 tag .notFound [] s) ∧ clear = .next (replied 0x25 tag .notFound [] s)) ∧
       (∀ tr, s.trip? trip = some tr → tr.state = .loading → (s.lane tr.lane).passage.isSome →
         castoff = .next (replied 0x24 tag .busy [] s))))

/-- CALL-SET, SAIL in the order of its checks, and ARRIVE: in SAILING only ARRIVE is accepted, a passage in flight and then
a LOADING trip refuse every SAIL, ashore cards and then conflicts a plain one; a value that is no OPEN or CLOSING is out of
range (R41 to R44). That a forced indication neither 0 nor 1 is RANGE is the model's choice (log 12). -/
def Obligations.CallStateGovernsSailing : Prop :=
  ∀ (tag : Byte) (len : Nat) (s : State), Ready s len →
    (let set := fun v => exec (.callSet tag ⟨len, some v⟩) s
    let sail := fun v => exec (.sail tag ⟨len, some v⟩) s
    let left := (s.register.cards.filter (fun p => p.2.kind ≠ .master ∧ p.2.presence = .ashore)).map (·.1)
    let gone := .next (replied 0x28 tag .ok [.u2 left.length] { s with
      presence := { s.presence with call := .sailing, leftBehind := left } })
    (s.presence.call ≠ .sailing →
      set 1 = .next (replied 0x27 tag .ok [.u1 1] { s with presence := { s.presence with call := .callOpen } }) ∧
      set 2 = .next (replied 0x27 tag .ok [.u1 2] { s with presence := { s.presence with call := .closing } }) ∧
      exec (.arrive tag ⟨len, some ()⟩) s = .next (replied 0x29 tag .wrongState [] s) ∧
      ((∀ n, 1 ≤ n → n ≤ 8 → (s.lane n).passage = none) →
        ((∃ p ∈ s.presence.trips, p.2.state = .loading) → ∀ v, v ≤ 1 →
          sail v = .next (replied 0x28 tag .wrongState [] s)) ∧
        ((∀ p ∈ s.presence.trips, p.2.state ≠ .loading) →
          sail 1 = gone ∧
          (0 < s.presence.ashore → sail 0 = .next (replied 0x28 tag .ashore [.u2 s.presence.ashore] s)) ∧
          (s.presence.ashore = 0 → 0 < s.presence.conflicts →
            sail 0 = .next (replied 0x28 tag .conflict [.u2 s.presence.conflicts] s)) ∧
          (s.presence.ashore = 0 → s.presence.conflicts = 0 → sail 0 = gone))) ∧
      (∀ n p, 1 ≤ n → n ≤ 8 → (s.lane n).passage = some p → ∀ v, v ≤ 1 →
        sail v = .next (replied 0x28 tag .busy [] s))) ∧
    (s.presence.call = .sailing →
      (∀ v, v = 1 ∨ v = 2 → set v = .next (replied 0x27 tag .wrongState [] s)) ∧
      (∀ v, v ≤ 1 → sail v = .next (replied 0x28 tag .wrongState [] s)) ∧
      exec (.arrive tag ⟨len, some ()⟩) s = .next (replied 0x29 tag .ok [] { s with
        presence := { s.presence with call := .callOpen, leftBehind := [] } })) ∧
    (∀ v, v ≠ 1 → v ≠ 2 → set v = .next (replied 0x27 tag .range [] s)) ∧
    (∀ v, 1 < v → sail v = .next (replied 0x28 tag .range [] s)))

/-! ## Lane settings -/

/-- LANE-SET writes every setting, pacing period and timeouts at their nearest in range, and restarts the pacing timer on
a change of period; it is refused with a passage in flight, or for SINGLE with a second gate bound; LANE-READ gives the
lane and changes nothing (R50 to R53). That the fields of a passage, and the online state of a gate, that are not there are
carried marked absent is the model's choice (log 45). -/
def Obligations.LaneSettingsStoredAndRead : Prop :=
  (∀ (tag : Byte) (len lane pacing t1 t2 : Nat) (direction : Direction) (chain : Chain) (tripRequired : Bool)
     (linked : Option StopInput) (s : State), Ready s len → 1 ≤ lane → lane ≤ 8 →
     (let l := s.lane lane
     let period := if pacing = 0 then 0 else max 300 (min 5000 pacing)
     let stored : Lane :=
       { l with
         direction, chain, tripRequired, stopLinked := linked, pacing := period, firstTimeout := max 5 (min 60 t1)
         secondTimeout := max 5 (min 60 t2), pacingStart := if period = l.pacing then l.pacingStart else s.now }
     let settings := fun (x : Lane) =>
       [Field.u1 x.direction.num, .u1 x.chain.num, .flag x.tripRequired, .u2 x.pacing, .u1 x.firstTimeout,
         .u1 x.secondTimeout, .u1 (stopLinkedNum x.stopLinked)]
     let gate := fun (g : Option TermId) =>
       match g with
       | none => [Field.term none, .code none]
       | some t => [.term (some t), .code (some (s.term t).online.num)]
     let down := !(s.gateOnline l.first) || (l.chain == .double && !(s.gateOnline l.second))
     let run := exec (.laneSet tag
       ⟨len, some ⟨lane, direction.num, chain.num, if tripRequired then 1 else 0, pacing, t1, t2, stopLinkedNum linked⟩⟩) s
     (l.passage.isSome → run = .next (replied 0x30 tag .busy [] s)) ∧
     (l.passage = none → chain = .single → (∃ p ∈ s.field.terms, p.2.binding = .gateSecond lane) →
       run = .next (replied 0x30 tag .wrongState [] s)) ∧
     (l.passage = none → (chain = .double ∨ ∀ p ∈ s.field.terms, p.2.binding ≠ .gateSecond lane) →
       run = .next (replied 0x30 tag .ok (settings stored) (s.setLane lane stored))) ∧
     exec (.laneRead tag ⟨len, some lane⟩) s = .next (replied 0x31 tag .ok
       (settings l ++ gate l.first ++ gate l.second ++
         [.trip l.trip, .u1 (if down then 1 else if l.passage.isSome then 2 else 3), .flag s.stops.stopA.asserted,
           .flag s.stops.stopB.asserted] ++
         (match l.passage with
           | none => [.num none, .code none, .ms none]
           | some p => [.num (some p.card), .code (some p.state.num), .ms (some (s.now - p.grantTime))])) s))) ∧
  (∀ (tag : Byte) (len lane : Nat) (s : State), Ready s len → lane = 0 ∨ 8 < lane →
     exec (.laneRead tag ⟨len, some lane⟩) s = .next (replied 0x31 tag .range [] s))

/-! ## Door settings and requests -/

/-- DOOR-CONFIG stores each setting at its nearest in range, LOW-TRIP before CRIT-TRIP, and empties the filter runs where
a battery setting changes; DOOR-READ gives the settings, or a bound door with times relative to now and the command
outstanding, or NOT-FOUND (R74, R75). The layout of a door's reply is the model's choice where R75 and R198 leave it open
(logs 11 and 40). -/
def Obligations.DoorSettingsAndDoorRead : Prop :=
  (∀ (tag : Byte) (len : Nat) (q : DoorConfigReq) (s : State), Ready s len →
     (let lowTrip := max 1 (min 255 q.lowTrip)
     let c : DoorSettings :=
       { overrideWindow := max 10 (min 120 q.overrideWindow), streakThreshold := max 3 (min 15 q.streakThreshold)
         holdTime := max 30 (min 900 q.holdTime), ajarTime := max 10 (min 600 q.ajarTime), lowTrip
         critTrip := min (lowTrip - 1) q.critTrip, hysteresis := min 32 q.hysteresis
         filterCount := max 1 (min 8 q.filterCount) }
     let old := s.doors.settings
     let kept := c.lowTrip = old.lowTrip ∧ c.critTrip = old.critTrip ∧ c.hysteresis = old.hysteresis ∧
       c.filterCount = old.filterCount
     let fields := fun (x : DoorSettings) =>
       [Field.u1 x.overrideWindow, .u1 x.streakThreshold, .u2 x.holdTime, .u2 x.ajarTime, .u1 x.lowTrip, .u1 x.critTrip,
         .u1 x.hysteresis, .u1 x.filterCount]
     exec (.doorConfig tag ⟨len, some q⟩) s = .next (replied 0x38 tag .ok (fields c) { s with
       doors :=
         { settings := c
           records :=
             if kept then s.doors.records else s.doors.records.map (fun p => (p.1, { p.2 with run := none })) } }) ∧
     exec (.doorRead tag ⟨len, some 0⟩) s = .next (replied 0x39 tag .ok (fields old) s))) ∧
  (∀ (tag : Byte) (len n : Nat) (t : TermId) (d : Door) (s : State), Ready s len → 1 ≤ n → n ≤ 9999 →
     ((∀ p ∈ s.doors.records, p.2.number ≠ n) →
       exec (.doorRead tag ⟨len, some n⟩) s = .next (replied 0x39 tag .notFound [] s)) ∧
     (s.door? t = some d → d.number = n → (∀ p ∈ s.doors.records, p.2.number = n → p = (termKey t, d)) →
       exec (.doorRead tag ⟨len, some n⟩) s = .next (replied 0x39 tag .ok
         [.term (some t), .u1 (s.term t).online.num, .num (some n), .u1 d.sect, .u1 (if d.privacy then 1 else 0),
           .u1 d.contact.num, .ms (d.openSince.map (fun x => s.now - x)), .u1 d.alarm.num,
           .u1 (if d.window.isSome then 1 else 0), .num (d.window.map (fun w => w.first)),
           .ms (d.window.map (fun w => w.expiry - s.now)), .u1 d.streak, .ms (d.streakTime.map (fun x => s.now - x)),
           .flag d.hold.isSome, .ms (d.hold.map (fun h => h.expiry - s.now)), .u2 ((d.hold.map (fun h => h.held)).getD 0),
           .u1 d.battery.num, .code (d.run.map (fun r => r.target.num)), .u1 ((d.run.map (fun r => r.count)).getD 0),
           .ms (d.lastOpen.map (fun x => s.now - x)), .u1 (if d.hostOpen then 1 else 0),
           .u1 (commandSlot (s.term t).outstanding)] s))) ∧
  (∀ (tag : Byte) (len n : Nat) (s : State), Ready s len → 9999 < n →
     exec (.doorRead tag ⟨len, some n⟩) s = .next (replied 0x39 tag .range [] s))

/-- DOOR-OPEN: OPEN is placed, host open pending, a hold ends with its entry, a window closes, the streak is 0, and the
entry HOST-OPEN written; a unit that is away or busy refuses it (R88, R86). That the streak's time stays, HOLD-END's cause
stands before its held count, and the card of an OPEN is held in the door record, none for the host's, is the model's choice
(logs 39, 46 and 28). -/
def Obligations.DoorOpenActsAsMaster : Prop :=
  ∀ (tag : Byte) (len n : Nat) (t : TermId) (d : Door) (s : State), Ready s len → 1 ≤ n → n ≤ 9999 →
    s.door? t = some d → d.number = n → (∀ p ∈ s.doors.records, p.2.number = n → p = (termKey t, d)) →
    (let run := exec (.doorOpen tag ⟨len, some n⟩) s
    let opened := (s.setTerm t (commanded (s.term t) .openLock)).setDoor t
      { d with hostOpen := true, openCard := none, hold := none, window := none, streak := 0 }
    let held :=
      match d.hold with
      | none => opened
      | some h => writeEntry .holdEnd (some t) none none [.reason .host, .heldCount h.held] opened
    let after := writeEntry .hostOpen (some t) none none
      ([.doorNumber n] ++ (if d.window.isSome then [.reason .windowEnded] else [])) held
    ((s.term t).online ≠ .online → run = .next (replied 0x3A tag .wrongState [] s)) ∧
    ((s.term t).online = .online → (s.term t).outstanding.isSome → run = .next (replied 0x3A tag .busy [] s)) ∧
    ((s.term t).online = .online → (s.term t).outstanding = none →
      ∃ u, run = .next (replied 0x3A tag .ok [] u) ∧ PollsMoved after u))

/-! ## Accounts, items, outlets -/

namespace Sys2Proof.Claims

/-- An OPEN account as read (R104). -/
def accountAsRead (s : State) (n : Nat) (a : Account) : List Field :=
  [.u1 1, .money a.balance, .money a.limit, .money a.allowance, .money a.pending, .money a.held, .u2 a.discount,
    .money (a.balance + a.pending + a.held), .flag a.warning,
    .u2 (s.register.cards.filter (fun p => p.2.account = n)).length]

end Sys2Proof.Claims

/-- ACCOUNT-SET opens a CLOSED account with its four fields, and of an OPEN one writes the fields present, the allowance
at least pending plus held, with the warning evaluated; ACCOUNT-CLOSE refuses while money is pending or held, then while
a card names the account, and else removes it; ACCOUNT-READ changes nothing (R101 to R104). That an account whose queued
records all have total 0 is closed, as R103's table lets it be, and that a CLOSED account is read as its state alone, is
the model's choice (logs 50 and 11). -/
def Obligations.AccountSetCloseAndRead : Prop :=
  (∀ (tag : Byte) (len n : Nat) (balance : Option Int) (limit allowance discount : Option Nat) (s : State), Ready s len →
     1 ≤ n → n ≤ 512 → (∀ v, balance = some v → -10000000 ≤ v ∧ v ≤ 100000000) → (∀ v, limit = some v → v ≤ 100000000) →
     (∀ v, allowance = some v → v ≤ 5000000) → (∀ v, discount = some v → v ≤ 5000) →
     (let run := exec (.accountSet tag
       ⟨len, some ⟨n, balance, limit.map Int.ofNat, allowance.map Int.ofNat, discount⟩⟩) s
     (s.account? n = none → (balance = none ∨ limit = none ∨ allowance = none ∨ discount = none) →
       run = .next (replied 0x40 tag .format [] s)) ∧
     (∀ b l a d, s.account? n = none → balance = some b → limit = some l → allowance = some a → discount = some d →
       let new : Account :=
         { balance := b, limit := l, allowance := a, pending := 0, held := 0, discount := d, warning := false }
       let t := accountWritten n new 5 s
       ∃ x, t.account? n = some x ∧ run = .next (replied 0x40 tag .ok (accountAsRead s n x) t)) ∧
     (∀ a, s.account? n = some a →
       let new : Account :=
         { a with
           balance := balance.getD a.balance, limit := limit.getD a.limit, discount := discount.getD a.discount
           allowance := (allowance.map (fun v => max v (a.pending + a.held))).getD a.allowance }
       let t := accountWritten n new 5 s
       ∃ x, t.account? n = some x ∧ run = .next (replied 0x40 tag .ok (accountAsRead s n x) t)))) ∧
  (∀ (tag : Byte) (len n : Nat) (s : State), Ready s len → 1 ≤ n → n ≤ 512 →
     (let close := exec (.accountClose tag ⟨len, some n⟩) s
     let read := exec (.accountRead tag ⟨len, some n⟩) s
     (s.account? n = none →
       close = .next (replied 0x41 tag .notFound [] s) ∧ read = .next (replied 0x42 tag .ok [.u1 0] s)) ∧
     (∀ a, s.account? n = some a →
       read = .next (replied 0x42 tag .ok (accountAsRead s n a) s) ∧
       (0 < a.pending ∨ 0 < a.held → close = .next (replied 0x41 tag .pending [] s)) ∧
       (a.pending = 0 → a.held = 0 → (∃ p ∈ s.register.cards, p.2.account = n) →
         close = .next (replied 0x41 tag .busy [] s)) ∧
       (a.pending = 0 → a.held = 0 → (∀ p ∈ s.register.cards, p.2.account ≠ n) →
         close = .next (replied 0x41 tag .ok [.money a.balance]
           { s with store := { s.store with accounts := s.store.accounts.filter (fun p => p.1 ≠ n) } }))))) ∧
  (∀ (tag : Byte) (len n : Nat) (s : State), Ready s len → n = 0 ∨ 512 < n →
     exec (.accountClose tag ⟨len, some n⟩) s = .next (replied 0x41 tag .range [] s) ∧
     exec (.accountRead tag ⟨len, some n⟩) s = .next (replied 0x42 tag .range [] s) ∧
     exec (.accountClose tag ⟨len, none⟩) s = .next (replied 0x41 tag .format [] s))

/-- ITEM-SET and OUTLET-SET write all four fields, the quote timeout at its nearest in range; ITEM-READ and OUTLET-READ
give them and change nothing; DAY-ROLL sets every GUEST card's drinks used to 0 (R105 to R108, R110). The layout of the
ITEM-READ reply, an item's state before its four fields and so sent twice, and an UNSET item as its state alone, is the
model's choice (log 11). -/
def Obligations.TariffStoredReadAndRolled : Prop :=
  ∀ (tag : Byte) (len : Nat) (s : State), Ready s len →
    (∀ (n price : Nat) (category : Category) (adultOnly active : Bool), n < 1024 → price ≤ 99999 →
      exec (.itemSet tag
          ⟨len, some ⟨n, price, category.num, if adultOnly then 1 else 0, if active then 1 else 2⟩⟩) s =
        .next (replied 0x43 tag .ok
          [.money price, .u1 category.num, .flag adultOnly, .u1 (if active then 1 else 2)]
          { s with store := { s.store with items := s.store.items.insert n { price, category, adultOnly, active } } })) ∧
    (∀ n, n < 1024 →
      exec (.itemRead tag ⟨len, some n⟩) s = .next (replied 0x44 tag .ok
        (match s.item? n with
          | none => [.u1 0]
          | some i =>
            [.u1 (if i.active then 1 else 2), .money i.price, .u1 i.category.num, .flag i.adultOnly,
              .u1 (if i.active then 1 else 2)]) s)) ∧
    (∀ (n rate ceiling timeout : Nat) (honoured : Bool), 1 ≤ n → n ≤ 16 → rate ≤ 2500 → 100 ≤ ceiling →
      ceiling ≤ 10000000 →
      ∃ u, exec (.outletSet tag ⟨len, some ⟨n, rate, ceiling, if honoured then 1 else 0, timeout⟩⟩) s =
          .next (replied 0x45 tag .ok
            [.u2 rate, .money ceiling, .flag honoured, .u2 (max 10 (min 300 timeout))] u) ∧
        u.outlet n = { rate, ceiling, honoured, timeout := max 10 (min 300 timeout) } ∧
        (∀ k, k ≠ n → u.outlet k = s.outlet k) ∧
        { u with store := { u.store with outlets := s.store.outlets } } = s) ∧
    (∀ n, 1 ≤ n → n ≤ 16 →
      exec (.outletRead tag ⟨len, some n⟩) s = .next (replied 0x46 tag .ok
        [.u2 (s.outlet n).rate, .money (s.outlet n).ceiling, .flag (s.outlet n).honoured, .u2 (s.outlet n).timeout,
          .u1 (s.field.terms.filter (fun p => p.2.binding = .bar n)).length] s)) ∧
    exec (.dayRoll tag ⟨len, some ()⟩) s = .next (replied 0x47 tag .ok
      [.u2 (s.register.cards.filter (fun p => p.2.kind = .guest ∧ 0 < p.2.drinksUsed)).length]
      { s with
        register :=
          { s.register with
            cards := s.register.cards.map (fun p =>
              (p.1, if p.2.kind = .guest then { p.2 with drinksUsed := 0 } else p.2)) } }) ∧
    exec (.dayRoll tag ⟨len, none⟩) s = .next (replied 0x47 tag .format [] s)

/-! ## The posting queue -/

namespace Sys2Proof.Claims

/-- The steps from a sequence forward to the last one issued, 4,294,967,295 being followed by 1 (R139). -/
def stepsBack (seq last : Nat) : Nat := if last < seq then last + 4294967295 - seq else last - seq

/-- The bytes that charge records take as read: 30 each and 8 a line (R200). -/
def chargeBytes (cs : List Charge) : Nat := (cs.map (fun c => 30 + 8 * c.lines.length)).sum

/-- A charge record as read (R143, R200). -/
def chargeAsRead (c : Charge) : List Field :=
  [.seq (some c.sequence), .num (some c.account), .num (some c.card), .code (some c.outlet), .term (some c.terminal),
      .time c.time, .money c.subtotal, .money c.service, .money c.total, .u1 c.drinks, .u1 c.lines.length] ++
    c.lines.flatMap (fun l => [.num (some l.item), .u1 l.qty, .u1 l.covered, .money l.net])

/-- A sequence number as read: 0 is none (R139). -/
def seqField (n : Nat) : Field := .seq (if n = 0 then none else some n)

end Sys2Proof.Claims

/-- CHARGE-READ gives, from the place R142 finds, up to 8 whole records and as many as a body of 1,020 bytes holds;
CHARGE-POSTED: 0 and a sequence ahead of the queue are out of range, one behind it changes nothing, one in it removes the
records through it, moves their money from pending to balance, and may lower the backlog (R139, R142 to R146, R200). That
a record of an account closed since touches no account is the model's choice (log 50). -/
def Obligations.PostingQueueReadAndPosted : Prop :=
  (∀ (tag : Byte) (len seq : Nat) (s : State), Ready s len →
     (let p := s.posting
     let back := stepsBack seq p.lastSeq
     let from_ : List Charge :=
       if p.lastSeq = 0 then []
       else if seq = 0 then p.committed
       else if back < p.committed.length then p.committed.drop (p.committed.length - 1 - back)
       else if back ≤ 2147483647 then p.committed
       else []
     ∃ k, k ≤ 8 ∧ k ≤ from_.length ∧ 15 + chargeBytes (from_.take k) ≤ 1020 ∧
       (k = 8 ∨ k = from_.length ∨ 1020 < 15 + chargeBytes (from_.take (k + 1))) ∧
       exec (.chargeRead tag ⟨len, some seq⟩) s = .next (replied 0x50 tag .ok
         ([.u1 k, .u2 p.committed.length, .u2 p.reserved, .seq (p.committed.head?.map (fun c => c.sequence)),
             seqField p.lastSeq, .u1 (if p.high then 1 else 0)] ++ (from_.take k).flatMap chargeAsRead) s))) ∧
  (∀ (tag : Byte) (len seq : Nat) (s : State), Ready s len →
     (let p := s.posting
     let back := stepsBack seq p.lastSeq
     let run := exec (.chargePosted tag ⟨len, some seq⟩) s
     let oldest := fun (cs : List Charge) => Field.seq (cs.head?.map (fun c => c.sequence))
     (seq = 0 ∨ p.lastSeq = 0 → run = .next (replied 0x51 tag .range [] s)) ∧
     (seq ≠ 0 → p.lastSeq ≠ 0 → p.committed.length ≤ back → 2147483647 < back →
       run = .next (replied 0x51 tag .range [] s)) ∧
     (seq ≠ 0 → p.lastSeq ≠ 0 → p.committed.length ≤ back → back ≤ 2147483647 →
       run = .next (replied 0x51 tag .ok
         [.u2 0, .u2 p.committed.length, oldest p.committed, seqField p.lastSeq] s)) ∧
     (seq ≠ 0 → p.lastSeq ≠ 0 → back < p.committed.length →
       let k := p.committed.length - back
       let posted := (p.committed.take k).foldl
         (fun x c =>
           match x.account? c.account with
           | none => x
           | some a =>
             accountWritten c.account { a with pending := a.pending - c.total, balance := a.balance + c.total } 4 x) s
       let left := p.committed.drop k
       run = .next (replied 0x51 tag .ok [.u2 k, .u2 left.length, oldest left, seqField p.lastSeq]
         (if p.high = true ∧ left.length ≤ 64 then
           raise .backlogLow [.u2 left.length, .u2 p.reserved, oldest left, seqField p.lastSeq]
             { posted with posting := { p with committed := left, high := false } }
         else { posted with posting := { p with committed := left } })))))

/-! ## Lines and terminals -/

namespace Sys2Proof.Claims

/-! ### The arbiter of a line (R167, R168) -/

/-- A PROBING or ONLINE terminal stands at or after the round position of a line (R167). -/
def Ahead (s : State) (l : Nat) : Prop :=
  ∃ a, (s.line l).roundPos ≤ a ∧ 1 ≤ a ∧ a ≤ 31 ∧ ((s.term ⟨l, a⟩).online = .probing ∨ (s.term ⟨l, a⟩).online = .online)

/-- What R168 asks of the terminals of a line before SLOW. -/
def QuietLine (s : State) (l : Nat) : Prop :=
  ∀ a, 1 ≤ a → a ≤ 31 →
    (let x := s.term ⟨l, a⟩
    x.outstanding = none ∧ x.more = false ∧ x.online ≠ .probing ∧
      (∀ n, x.binding = .gateFirst n ∨ x.binding = .gateSecond n → (s.lane n).passage = none) ∧
      (∀ o y, x.binding = .bar o → s.slot? ⟨l, a⟩ = some y → y.quote = none))

/-- A priority candidate of a line (R167). -/
def Candidate (s : State) (l a : Nat) : Prop :=
  1 ≤ a ∧ a ≤ 31 ∧ (s.term ⟨l, a⟩).online = .online ∧ ((s.term ⟨l, a⟩).outstanding ≠ none ∨ (s.term ⟨l, a⟩).more = true)

/-- A terminal of a line that the round polls (R167). -/
def RoundTerminal (s : State) (l a : Nat) : Prop :=
  1 ≤ a ∧ a ≤ 31 ∧ ((s.term ⟨l, a⟩).online = .probing ∨ (s.term ⟨l, a⟩).online = .online)

/-- The probe of a terminal of a line fell due at d (R164, R165, R167). -/
def DueSince (s : State) (l a d : Nat) : Prop :=
  1 ≤ a ∧ a ≤ 31 ∧ ((s.term ⟨l, a⟩).online = .offline ∨ (s.term ⟨l, a⟩).online = .mismatch) ∧
    (s.term ⟨l, a⟩).probeDue = some d ∧ d ≤ s.now

/-- The first address of a kind at or after a position, counting on from 31 to 1 (R167). -/
def FirstFrom (pos : Nat) (P : Nat → Prop) (a : Nat) : Prop :=
  P a ∧ ∀ b, P b → (a + 31 - pos % 31) % 31 ≤ (b + 31 - pos % 31) % 31

/-- The poll sent to a terminal: the command outstanding while ONLINE, the command toggle held, and the event toggle last
taken with its valid bit (R158 to R160, R164). -/
def pollSent (x : Terminal) (a : Nat) : Poll :=
  { addr := a, command := if x.online = .online ∧ x.toggle ≠ none then x.outstanding else none
    toggle := x.toggle.getD false, ack := x.eventToggle.getD false, ackValid := x.eventToggle.isSome, stale := false }

/-- The line with a poll of an address begun. -/
def pollBegun (s : State) (l a : Nat) (line : Line) : State :=
  s.setLine l { line with exchange := some (pollSent (s.term ⟨l, a⟩) a) }

/-- The probe due is made: that which fell due earliest, the lower address first; the priority run becomes 0, and the next
probe falls due 2 s after it (R164, R165, R167). -/
def ProbeMade (s : State) (l : Nat) (line : Line) (u : State) : Prop :=
  ∃ a d, DueSince s l a d ∧ (∀ b e, DueSince s l b e → d < e ∨ (d = e ∧ a ≤ b)) ∧
    u = (pollBegun s l a { line with priorityRun := 0 }).setTerm ⟨l, a⟩
      { s.term ⟨l, a⟩ with probeDue := some (s.now + 2000) }

/-- The arbiter's choice on a line in RUNNING whose record is now this one: the first case of R167 that applies, of a
priority poll, a probe, a round poll and none. -/
def NextPoll (s : State) (l : Nat) (line : Line) (u : State) : Prop :=
  (line.priorityRun < 4 ∧ ∃ a, FirstFrom line.roundPos (Candidate s l) a ∧
    u = pollBegun s l a { line with priorityRun := line.priorityRun + 1 }) ∨
  ((4 ≤ line.priorityRun ∨ ∀ a, ¬ Candidate s l a) ∧
    (ProbeMade s l line u ∨
    ((∀ a d, ¬ DueSince s l a d) ∧
      ((∃ a, FirstFrom line.roundPos (RoundTerminal s l) a ∧
        u = pollBegun s l a { line with priorityRun := 0, roundPos := a % 31 + 1, inSweep := true }) ∨
      ((∀ a, ¬ RoundTerminal s l a) ∧ u = s.setLine l line)))))

/-- The next poll of a line in SLOW whose record is now this one: the slow sweep's next terminal that is still ONLINE, else
a probe due, else none (R168; the place of a probe, and what a slow sweep leaves, is the model's choice, logs 23 and 44). -/
def SlowPoll (s : State) (l : Nat) (line : Line) (u : State) : Prop :=
  (∃ gone a rest, line.slowLeft = gone ++ a :: rest ∧ (∀ b ∈ gone, (s.term ⟨l, b⟩).online ≠ .online) ∧
    (s.term ⟨l, a⟩).online = .online ∧ u = pollBegun s l a { line with slowLeft := rest }) ∨
  ((∀ b ∈ line.slowLeft, (s.term ⟨l, b⟩).online ≠ .online) ∧
    (ProbeMade s l { line with slowLeft := [] } u ∨
    ((∀ a d, ¬ DueSince s l a d) ∧ u = s.setLine l { line with slowLeft := [] })))

/-- What a line without an exchange does next. In RUNNING a sweep has ended when no PROBING or ONLINE terminal is left at or
after the round position: then the line enters SLOW where every condition of R168 holds; otherwise R167 chooses. In SLOW it
goes on with its slow sweep; STOPPED or in FAULT it polls nothing (R149, R167, R168). -/
def PollChosen (s : State) (l : Nat) (u : State) : Prop :=
  let line := { s.line l with exchange := none }
  let Ended := line.inSweep = true ∧ (line.roundPos = 1 ∨ ¬ Ahead s l)
  let Quiet := line.slowPermitted = true ∧ line.sweepEvent = false ∧ QuietLine s l
  let swept := { line with inSweep := false, sweepEvent := false }
  (line.state = .running → ¬ Ended → NextPoll s l line u) ∧
  (line.state = .running → Ended → ¬ Quiet → NextPoll s l swept u) ∧
  (line.state = .running → Ended → Quiet → SlowPoll s l { swept with state := .slow, slowLeft := [] } u) ∧
  (line.state = .slow → SlowPoll s l line u) ∧
  (line.state = .stopped ∨ line.state = .fault → u = s.setLine l line)

/-- The line in RUNNING: one in SLOW has returned to it and begins a new sweep at its round position (R168; log 23). -/
def runningAgain (l : Nat) (s : State) : State :=
  if (s.line l).state = .slow then
    s.setLine l { s.line l with state := .running, inSweep := false, sweepEvent := false, slowLeft := [] }
  else s

/-- A line in RUNNING or SLOW is in RUNNING, and without an exchange it chooses its next poll at once (R167, R168). -/
def Woken (s : State) (l : Nat) (u : State) : Prop :=
  ((s.line l).exchange.isSome → u = runningAgain l s) ∧
    ((s.line l).exchange = none → PollChosen (runningAgain l s) l u)

/-- The record of a line after an accepted LINE-SET, whole: enabled from no to yes it is RUNNING, with the round position at 1
and the priority run at 0; from yes to no it is STOPPED; one in SLOW that may no longer be is RUNNING; any other keeps its
state (R150). That a line which changes its state has nothing of a sweep left, and a stopped one no exchange, is the model's
choice (logs 23 and 33). -/
def lineSetTo (x : Line) (rate : LineRate) (enabled slow : Bool) : Line :=
  let y := { x with rate, enabled, slowPermitted := slow }
  if x.enabled = false ∧ enabled = true then
    { y with state := .running, roundPos := 1, priorityRun := 0, inSweep := false, sweepEvent := false, slowLeft := [] }
  else if x.enabled = true ∧ enabled = false then
    { y with state := .stopped, exchange := none, inSweep := false, sweepEvent := false, slowLeft := [] }
  else if x.enabled = true ∧ x.state = .slow ∧ slow = false then
    { y with state := .running, inSweep := false, sweepEvent := false, slowLeft := [] }
  else y

end Sys2Proof.Claims

/-- LINE-SET writes rate, enabled and slow permitted, puts an enabled line in RUNNING from the start of its round, stops a
disabled one and ends SLOW where it is no longer permitted, leaving the counters; a line without an exchange then chooses by
R167 and R168. It refuses RANGE, and a new rate or enabled BUSY while a terminal is not DISABLED. LINE-READ gives the line and
may clear its counters (R150, R151, R167, R168). That a line which changes its state has nothing of a sweep left and a stopped
one no exchange, and what SLOW leaves of a sweep and of the priority run, is the model's choice (logs 23, 33 and 44). -/
def Obligations.LineSetAndRead : Prop :=
  (∀ (tag : Byte) (len l : Nat) (rate : LineRate) (enabled slow clear : Bool) (s : State), Ready s len → 1 ≤ l → l ≤ 8 →
     (let x := s.line l
     let y := lineSetTo x rate enabled slow
     let changes := rate ≠ x.rate ∨ enabled ≠ x.enabled
     let someEnabled := ∃ a, 1 ≤ a ∧ a ≤ 31 ∧ (s.term ⟨l, a⟩).online ≠ .disabled
     let run := exec (.lineSet tag
       ⟨len, some ⟨l, rate.num, if enabled then 1 else 0, if slow then 1 else 0⟩⟩) s
     (changes → someEnabled → run = .next (replied 0x58 tag .busy [] s)) ∧
     (¬ changes ∨ ¬ someEnabled →
       ∃ u, run = .next
           (replied 0x58 tag .ok [.u1 rate.num, .flag enabled, .flag slow, .u1 y.state.num] u) ∧
         (y.exchange.isSome → u = s.setLine l y) ∧ (y.exchange = none → PollChosen (s.setLine l y) l u)) ∧
     exec (.lineRead tag ⟨len, some ⟨l, if clear then 1 else 0⟩⟩) s = .next (replied 0x59 tag .ok
       ([.u1 x.rate.num, .flag x.enabled, .flag x.slowPermitted, .u1 x.state.num, .u2 x.badCheck, .u2 x.truncated,
           .u2 x.wrongAddress, .u2 x.noReply] ++
         (List.range 31).flatMap (fun k =>
           [Field.u1 (s.term ⟨l, k + 1⟩).online.num, .flag (s.term ⟨l, k + 1⟩).outstanding.isSome]))
       (if clear then s.setLine l { x with badCheck := 0, truncated := 0, wrongAddress := 0, noReply := 0 } else s)))) ∧
  (∀ (tag : Byte) (len l : Nat) (clear : Bool) (s : State), Ready s len → l = 0 ∨ 8 < l →
     exec (.lineRead tag ⟨len, some ⟨l, if clear then 1 else 0⟩⟩) s = .next (replied 0x59 tag .range [] s)) ∧
  (∀ (tag : Byte) (len l rate enabled slow : Nat) (s : State), Ready s len →
     l = 0 ∨ 8 < l ∨ (∀ v : LineRate, rate ≠ v.num) ∨ 1 < enabled ∨ 1 < slow →
     exec (.lineSet tag ⟨len, some ⟨l, rate, enabled, slow⟩⟩) s = .next (replied 0x58 tag .range [] s))

namespace Sys2Proof.Claims

/-- A line and an address in range (R152). -/
abbrev TermInRange (t : TermId) : Prop := 1 ≤ t.line ∧ t.line ≤ 8 ∧ 1 ≤ t.addr ∧ t.addr ≤ 31

/-- The binding that a request's argument stands for (R154). -/
def bindArg : Binding → BindArg
  | .unbound => .unbound
  | .door n k => .door n k
  | .bar o => .bar o
  | .gateFirst n => .gateFirst n
  | .gateSecond n => .gateSecond n

/-- A binding as carried in a reply or a notice: its code, then its values. -/
def bindFields : Binding → List Field
  | .unbound => [.u1 0]
  | .door n k => [.u1 1, .num (some n), .u1 k]
  | .bar o => [.u1 2, .u1 o]
  | .gateFirst n => [.u1 3, .u1 n]
  | .gateSecond n => [.u1 4, .u1 n]

/-- The binding's values are in range (R154, check 2). -/
def BindingInRange : Binding → Prop
  | .unbound => True
  | .door n k => 1 ≤ n ∧ n ≤ 9999 ∧ k ≤ 63
  | .bar o => 1 ≤ o ∧ o ≤ 16
  | .gateFirst n => 1 ≤ n ∧ n ≤ 8
  | .gateSecond n => 1 ≤ n ∧ n ≤ 8

/-- The refusal of a binding for what other terminals and the lane hold (R154, checks 4 to 6). -/
def BindingRefused (t : TermId) (b : Binding) (c : Code) (s : State) : Prop :=
  match b with
  | .unbound => False
  | .bar _ => False
  | .door n _ => c = .alreadyExists ∧ ∃ p ∈ s.field.terms, p.1 ≠ termKey t ∧ ∃ k, p.2.binding = .door n k
  | .gateFirst n => c = .alreadyExists ∧ ∃ g, (s.lane n).first = some g ∧ g ≠ t
  | .gateSecond n =>
    (c = .alreadyExists ∧ ∃ g, (s.lane n).second = some g ∧ g ≠ t) ∨
      (c = .wrongState ∧ (∀ g, (s.lane n).second = some g → g = t) ∧ (s.lane n).chain = .single)

/-- The job that a binding makes for a terminal: a door record, a slot or a lane's gate (R155, R76, R113). -/
def jobMade (t : TermId) (b : Binding) (s : State) : State :=
  match b with
  | .unbound => s
  | .door n k => { s with doors := { s.doors with records := s.doors.records.insert (termKey t) (doorStarted n k) } }
  | .bar o => { s with slots := s.slots.insert (termKey t) { outlet := o, quote := none, waiting := none } }
  | .gateFirst n => s.setLane n { s.lane n with first := some t }
  | .gateSecond n => s.setLane n { s.lane n with second := some t }

/-- The job of a binding removed (R155). -/
def jobRemoved (t : TermId) (b : Binding) (s : State) : State :=
  match b with
  | .unbound => s
  | .door .. => { s with doors := { s.doors with records := s.doors.records.filter (fun p => p.1 ≠ termKey t) } }
  | .bar _ => { s with slots := s.slots.filter (fun p => p.1 ≠ termKey t) }
  | .gateFirst n => s.setLane n { s.lane n with first := none }
  | .gateSecond n => s.setLane n { s.lane n with second := none }

end Sys2Proof.Claims

/-- TERM-BIND of a DISABLED terminal removes the job of the old binding and makes that of the new one, refused in the
order of R154; TERM-ENABLE makes a DISABLED terminal PROBING with everything unknown; TERM-READ changes nothing (R154, R155,
R76, R113, R157). That a line in SLOW stays in SLOW when a gate is bound to a lane with a passage in flight, that a new
door record has no time of a refusal, and that a binding is sent as its code and then what it serves, is the model's choice
(logs 44, 39 and 11). -/
def Obligations.TermBindEnableAndRead : Prop :=
  (∀ (tag : Byte) (len : Nat) (t : TermId) (b : Binding) (s : State), Ready s len → TermInRange t → BindingInRange b →
     (let run := exec (.termBind tag ⟨len, some ⟨t, bindArg b⟩⟩) s
     ((s.term t).online ≠ .disabled → run = .next (replied 0x5A tag .busy [] s)) ∧
     ((s.term t).online = .disabled →
       (∀ c, BindingRefused t b c s → run = .next (replied 0x5A tag c [] s)) ∧
       ((∀ c, ¬ BindingRefused t b c s) →
         run = .next (replied 0x5A tag .ok (bindFields b)
           (jobMade t b ((jobRemoved t (s.term t).binding s).setTerm t
             { s.term t with binding := b, kindSeen := none }))))))) ∧
  (∀ (tag : Byte) (len : Nat) (t : TermId) (s : State), Ready s len → TermInRange t →
     (let x := s.term t
     let run := exec (.termEnable tag ⟨len, some t⟩) s
     ((s.line t.line).enabled = false → run = .next (replied 0x5B tag .wrongState [] s)) ∧
     ((s.line t.line).enabled = true →
       (x.online ≠ .disabled → run = .next (replied 0x5B tag .ok [.u1 x.online.num] s)) ∧
       (x.online = .disabled →
         ∃ u, run = .next (replied 0x5B tag .ok [.u1 1] u) ∧
           PollsMoved
             (s.setTerm t
               { binding := x.binding, enabled := true, online := .probing, kindSeen := none, misses := 0, toggle := none
                 outstanding := none, eventToggle := none, more := false, probeDue := none }) u)) ∧
     exec (.termRead tag ⟨len, some t⟩) s = .next (replied 0x5D tag .ok
       (bindFields x.binding ++
         [.flag x.enabled, .u1 x.online.num, .code (x.kindSeen.map TermKind.num), .u1 x.misses, .flag x.more,
           .u1 (commandSlot x.outstanding), .u1 (s.line t.line).state.num]) s))) ∧
  (∀ (tag : Byte) (len : Nat) (t : TermId) (s : State), Ready s len → ¬ TermInRange t →
     exec (.termRead tag ⟨len, some t⟩) s = .next (replied 0x5D tag .range [] s))

namespace Sys2Proof.Claims

/-- The passage waits on this gate of its lane (R57). -/
def WaitsOn (p : Passage) (g : Gate) : Prop :=
  (g = .first ∧ (p.state = .firstSending ∨ p.state = .firstReleased ∨ p.state = .firstRevoking)) ∨
    (g = .second ∧ (p.state = .secondSending ∨ p.state = .secondReleased ∨ p.state = .secondRevoking))

/-- The card of a passage freed and marked, its conflict UNCERTAIN-PASSAGE, and the passage of lane n ended UNCERTAIN (R64,
R28, R69). -/
def passageUncertain (n : Nat) (p : Passage) (c : Card) (s : State) : State :=
  passageEnded n p .uncertain
    (conflictSetTo p.card { c with passage := none } .uncertainPassage [.term none, .code (some n)] (cardFreed p.card c s))

/-- What the block of a terminal's binding does once the terminal has left ONLINE: x is the terminal record before, s the
part with the record after, w what it becomes. A door's contact is UNKNOWN with no alarm, timing or filter run, and its
OPEN abandoned has failed; a bar's waiting command is discarded and its quote released without a RESULT; a lane's waiting
passage is CANCELLED, one that waits on the gate lost ends UNCERTAIN, any other runs on (R64, R87, R94, R132, R166). -/
def LossTold (t : TermId) (x : Terminal) (s w : State) : Prop :=
  (x.binding = .unbound ∧ w = s) ∨
  (∃ n k d, x.binding = .door n k ∧ s.door? t = some d ∧
    (let lost := { d with contact := .unknown, ajar := none, alarm := .noAlarm, run := none }
    let failed := s.setDoor t { lost with hostOpen := false, openCard := none }
    (x.outstanding ≠ some .openLock ∧ w = s.setDoor t lost) ∨
    (x.outstanding = some .openLock ∧ d.hostOpen = false ∧ w = writeEntry .openFailed (some t) d.openCard none [] failed) ∨
    (x.outstanding = some .openLock ∧ d.hostOpen = true ∧
      w = writeEntry .hostOpenFailed (some t) none none [.doorNumber d.number]
        (raise .hostOpenFailed [.num (some d.number), .term (some t)] failed)))) ∨
  (∃ o y, x.binding = .bar o ∧ s.slot? t = some y ∧
    ((y.quote = none ∧ w = s.setSlot t { y with waiting := none }) ∨
    (∃ q c a, y.quote = some q ∧ s.card? q.card = some c ∧ s.account? q.account = some a ∧
      w = quoteReleased t { y with waiting := none } q c a s))) ∨
  (∃ n g, 1 ≤ n ∧ n ≤ 8 ∧ ((g = Gate.first ∧ x.binding = .gateFirst n) ∨ (g = .second ∧ x.binding = .gateSecond n)) ∧
    (((s.lane n).passage = none ∧ w = s) ∨
    (∃ p c, (s.lane n).passage = some p ∧ s.card? p.card = some c ∧ c.kind ≠ .master ∧
      ((p.state = .waitingPace ∧ w = passageEnded n p (.cancelled .laneDown) (cardFreed p.card c s)) ∨
      (WaitsOn p g ∧ w = passageUncertain n p c s) ∨
      (p.state ≠ .waitingPace ∧ ¬ WaitsOn p g ∧ w = s)))))

end Sys2Proof.Claims

/-- TERM-DISABLE: the terminal is DISABLED, its command abandoned and an exchange in progress marked to be discarded; one
that was ONLINE leaves ONLINE with all that the block of its binding does then (R64, R87, R94, R132, R156, R166). What
HOST-OPEN-FAILED carries, where the card of an abandoned OPEN was held, and that the notice UNCERTAIN has the byte of a
reason, absent, is the model's choice (logs 13, 28 and 51). -/
def Obligations.DisableAbandonsWork : Prop :=
  ∀ (tag : Byte) (len : Nat) (t : TermId) (s : State), Ready s len → TermInRange t →
    (let x := s.term t
    let run := exec (.termDisable tag ⟨len, some t⟩) s
    let marked :=
      match (s.line t.line).exchange with
      | none => s
      | some p => if p.addr = t.addr then s.setLine t.line { s.line t.line with exchange := some { p with stale := true } } else s
    let off := marked.setTerm t { x with enabled := false, online := .disabled, outstanding := none, probeDue := none }
    (x.online = .disabled → run = .next (replied 0x5C tag .ok [.u1 0] s)) ∧
    (x.online ≠ .disabled → x.online ≠ .online → x.outstanding = none → run = .next (replied 0x5C tag .ok [.u1 0] off)) ∧
    (x.online = .online → ∀ w, LossTold t x off w → run = .next (replied 0x5C tag .ok [.u1 0] w)))

/-! ## The log, the notices and the part -/

/-- A notice takes its class's level and joins the queue, or displaces the oldest of the lowest level, or is dropped,
counted; a log entry joins the log, is dropped in HOLD or gives the oldest up in WRAP, counted, and may raise LOG-FILL
(R181, R182, R192, R195). -/
def Obligations.NoticesAndEntriesJoin : Prop :=
  (∀ (name : NoticeName) (content : List Field) (s : State),
     (let level := s.notices.levels.get name.cls
     let n : Notice := { name, level, time := s.clock, content }
     let q := s.notices.queue
     let dropped := if s.notices.dropped < 65535 then s.notices.dropped + 1 else s.notices.dropped
     (level = 0 → raise name content s = s) ∧
     (level ≠ 0 → q.length < 64 → raise name content s = { s with notices := { s.notices with queue := q ++ [n] } }) ∧
     (level ≠ 0 → 64 ≤ q.length →
       ((∀ m ∈ q, level < m.level) → raise name content s = { s with notices := { s.notices with dropped } }) ∧
       (∀ before m after, q = before ++ m :: after → m.level ≤ level → (∀ x ∈ q, m.level ≤ x.level) →
         (∀ x ∈ before, m.level < x.level) →
         raise name content s =
           { s with notices := { s.notices with queue := before ++ after ++ [n], dropped } })))) ∧
  (∀ (kind : EntryKind) (term : Option TermId) (record : Option Nat) (outcome : Option EntryOutcome)
     (details : List Detail) (s : State),
     (let l := s.log
     let e : LogEntry := { time := s.clock, kind, term, record, outcome, details }
     let bumped := fun (n : Nat) => if n < 65535 then n + 1 else n
     let fills := fun (m : AuditLog) =>
       raise .logFill [.u2 m.entries.length, .u1 m.mode.num, .u2 m.dropped, .u2 m.overwritten]
         { s with log := { m with fired := true } }
     let joined : AuditLog := { l with entries := l.entries ++ [e] }
     let wrapped : AuditLog := { l with entries := l.entries.drop 1 ++ [e], overwritten := bumped l.overwritten }
     let run := writeEntry kind term record outcome details s
     (l.entries.length < 2048 → (l.fired = true ∨ l.entries.length + 1 < 1792) → run = { s with log := joined }) ∧
     (l.entries.length < 2048 → l.fired = false → 1792 ≤ l.entries.length + 1 → run = fills joined) ∧
     (2048 ≤ l.entries.length → l.mode = .hold → run = { s with log := { l with dropped := bumped l.dropped } }) ∧
     (2048 ≤ l.entries.length → l.mode = .wrap → l.fired = true → run = { s with log := wrapped }) ∧
     (2048 ≤ l.entries.length → l.mode = .wrap → l.fired = false → run = fills wrapped)))

/-- LOG-MODE writes the mode; LOG-READ gives and removes the oldest 16 entries, gives and clears the counts, and arms the
log again below 1,024 entries (R193 to R195, R200). The four value bytes of an absent detail are marked absent: the model's
choice (log 9). -/
def Obligations.LogModeAndRead : Prop :=
  ∀ (tag : Byte) (len : Nat) (mode : LogMode) (s : State), Ready s len →
    (let l := s.log
    let detail := fun (d : Option Detail) =>
      match d with
      | none => [Field.u1 0, .absent 4]
      | some x => [.u1 x.tagValue.1, .ms (some x.tagValue.2)]
    exec (.logMode tag ⟨len, some mode.num⟩) s = .next (replied 0x60 tag .ok
      [.u1 mode.num, .u2 l.entries.length, .u2 l.dropped, .u2 l.overwritten] { s with log := { l with mode } }) ∧
    exec (.logRead tag ⟨len, some ()⟩) s = .next (replied 0x61 tag .ok
      ([.u1 (min 16 l.entries.length), .u2 (l.entries.length - 16), .u1 l.mode.num, .u2 l.dropped, .u2 l.overwritten] ++
        (l.entries.take 16).flatMap (fun e =>
          [.time e.time, .u1 e.kind.num, .term e.term, .num e.record, .code (e.outcome.map EntryOutcome.num)] ++
            detail e.details[0]? ++ detail e.details[1]?))
      { s with
        log :=
          { l with
            entries := l.entries.drop 16, dropped := 0, overwritten := 0
            fired := l.fired && !decide (l.entries.length - 16 < 1024) } })) ∧
    (∀ v, v ≠ 0 → v ≠ 1 → exec (.logMode tag ⟨len, some v⟩) s = .next (replied 0x60 tag .range [] s)) ∧
    exec (.logMode tag ⟨len, none⟩) s = .next (replied 0x60 tag .format [] s) ∧
    exec (.logRead tag ⟨len, none⟩) s = .next (replied 0x61 tag .format [] s)

/-- NOTICE-LEVEL, CLOCK-SET, PART-STATUS, PART-CLEAR and PART-RESET, each with its reply and its one effect; a second of
the time base advances a set clock and leaves an UNSET one (R181, R184 to R187). That the part code of PART-STATUS is two
bytes is the model's choice (log 11). -/
def Obligations.PartRequestsServed : Prop :=
  (∀ (tag : Byte) (len : Nat) (s : State), Ready s len →
     (let k := s.link
     let flags := fun (g : Groups) => [Field.flag g.a, .flag g.b, .flag g.c, .flag g.d, .flag g.e]
     (∀ (cls : NoticeClass) (level : Nat), level ≤ 3 →
       let v := s.notices.levels.set cls level
       exec (.noticeLevel tag ⟨len, some ⟨cls.num, level⟩⟩) s = .next (replied 0x68 tag .ok
         [.u1 v.access, .u1 v.presence, .u1 v.part, .u1 v.passage, .u1 v.terminal, .u1 v.card, .u1 v.platform,
           .u1 v.charge] { s with notices := { s.notices with levels := v } }) ∧
         v.get cls = level ∧ (∀ c, c ≠ cls → v.get c = s.notices.levels.get c)) ∧
     (∀ day sec, sec ≤ 86399 →
       exec (.clockSet tag ⟨len, some ⟨day, sec⟩⟩) s =
         .next (replied 0x69 tag .ok [.time (some ⟨day, sec⟩)] { s with clock := some ⟨day, sec⟩ })) ∧
     (∀ day sec, 86399 < sec →
       exec (.clockSet tag ⟨len, some ⟨day, sec⟩⟩) s = .next (replied 0x69 tag .range [] s)) ∧
     (∀ clear : Bool,
       exec (.partStatus tag ⟨len, some (if clear then 1 else 0)⟩) s = .next (replied 0x6A tag .ok
         ([.u2 0x4801] ++ flags s.startup.loss ++
           [.u1 s.startup.kind.num, .u2 k.badCheck, .u2 k.overLength, .u2 k.gap, .u2 k.overrun, .u2 k.rxBytes.length,
             .u1 0, .flag k.hostPause, .u1 k.replies.length, .u1 s.notices.queue.length, .u2 s.notices.dropped,
             .time s.clock, .u2 s.presence.aboard, .u2 s.presence.ashore, .u2 s.presence.conflicts,
             .u2 s.posting.committed.length, .u2 s.posting.reserved, .u2 s.log.entries.length])
         (if clear then { s with link := { k with badCheck := 0, overLength := 0, gap := 0, overrun := 0 } } else s))) ∧
     exec (.partStatus tag ⟨len, none⟩) s = .next (replied 0x6A tag .format [] s) ∧
    exec (.partClear tag ⟨len, none⟩) s = .next (replied 0x6B tag .format [] s) ∧
    exec (.partClear tag ⟨len, some ()⟩) s = .next (replied 0x6B tag .ok (flags s.startup.loss)
       { s with startup := { s.startup with loss := ⟨false, false, false, false, false⟩ } }) ∧
     exec (.partReset tag ⟨len, some ()⟩) s = .next (replied 0x6C tag .ok []
       { s with link := { k with resetWaiting := true } }))) ∧
  (∀ s : State, s.powered = true →
     (s.clock = none → exec .clockSecond s = .next s) ∧
     (∀ day sec, s.clock = some ⟨day, sec⟩ → sec < 86399 →
       exec .clockSecond s = .next { s with clock := some ⟨day, sec + 1⟩ }) ∧
     (∀ day, s.clock = some ⟨day, 86399⟩ → day < 65535 →
       exec .clockSecond s = .next { s with clock := some ⟨day + 1, 0⟩ }) ∧
     (s.clock = some ⟨65535, 86399⟩ → exec .clockSecond s = .next { s with clock := some ⟨0, 0⟩ }))

/-! ## The host link -/

namespace Sys2Proof.Claims

/-- The command that stands for a good frame with a request (R177; log 2). -/
def commandOf (tag : Byte) : Request → Instr
  | .cardIssue b => .cardIssue tag b
  | .cardReissue b => .cardReissue tag b
  | .cardStatus b => .cardStatus tag b
  | .cardSet b => .cardSet tag b
  | .cardVacate b => .cardVacate tag b
  | .cardRead b => .cardRead tag b
  | .cardFind b => .cardFind tag b
  | .presenceSet b => .presenceSet tag b
  | .conflictClear b => .conflictClear tag b
  | .countRead b => .countRead tag b
  | .tripOpen b => .tripOpen tag b
  | .tripCastoff b => .tripCastoff tag b
  | .tripClear b => .tripClear tag b
  | .tripRead b => .tripRead tag b
  | .callSet b => .callSet tag b
  | .sail b => .sail tag b
  | .arrive b => .arrive tag b
  | .leftRead b => .leftRead tag b
  | .laneSet b => .laneSet tag b
  | .laneRead b => .laneRead tag b
  | .doorConfig b => .doorConfig tag b
  | .doorRead b => .doorRead tag b
  | .doorOpen b => .doorOpen tag b
  | .accountSet b => .accountSet tag b
  | .accountClose b => .accountClose tag b
  | .accountRead b => .accountRead tag b
  | .itemSet b => .itemSet tag b
  | .itemRead b => .itemRead tag b
  | .outletSet b => .outletSet tag b
  | .outletRead b => .outletRead tag b
  | .dayRoll b => .dayRoll tag b
  | .chargeRead b => .chargeRead tag b
  | .chargePosted b => .chargePosted tag b
  | .lineSet b => .lineSet tag b
  | .lineRead b => .lineRead tag b
  | .termBind b => .termBind tag b
  | .termEnable b => .termEnable tag b
  | .termDisable b => .termDisable tag b
  | .termRead b => .termRead tag b
  | .logMode b => .logMode tag b
  | .logRead b => .logRead tag b
  | .noticeLevel b => .noticeLevel tag b
  | .clockSet b => .clockSet tag b
  | .partStatus b => .partStatus tag b
  | .partClear b => .partClear tag b
  | .partReset b => .partReset tag b
  | .unknownKind kind length => .unknownKindRequest tag kind length

/-- Each request with a body of the wrong shape, with its kind code (R198). -/
def unshaped (tag : Byte) (len : Nat) : List (Nat × Instr) :=
    [(0x10, .cardIssue tag ⟨len, none⟩), (0x11, .cardReissue tag ⟨len, none⟩), (0x12, .cardStatus tag ⟨len, none⟩),
      (0x13, .cardSet tag ⟨len, none⟩), (0x14, .cardVacate tag ⟨len, none⟩), (0x15, .cardRead tag ⟨len, none⟩),
      (0x16, .cardFind tag ⟨len, none⟩), (0x20, .presenceSet tag ⟨len, none⟩),
      (0x21, .conflictClear tag ⟨len, none⟩), (0x22, .countRead tag ⟨len, none⟩),
      (0x23, .tripOpen tag ⟨len, none⟩), (0x24, .tripCastoff tag ⟨len, none⟩), (0x25, .tripClear tag ⟨len, none⟩),
      (0x26, .tripRead tag ⟨len, none⟩), (0x27, .callSet tag ⟨len, none⟩), (0x28, .sail tag ⟨len, none⟩),
      (0x29, .arrive tag ⟨len, none⟩), (0x2A, .leftRead tag ⟨len, none⟩), (0x30, .laneSet tag ⟨len, none⟩),
      (0x31, .laneRead tag ⟨len, none⟩), (0x38, .doorConfig tag ⟨len, none⟩), (0x39, .doorRead tag ⟨len, none⟩),
      (0x3A, .doorOpen tag ⟨len, none⟩), (0x40, .accountSet tag ⟨len, none⟩),
      (0x41, .accountClose tag ⟨len, none⟩), (0x42, .accountRead tag ⟨len, none⟩),
      (0x43, .itemSet tag ⟨len, none⟩), (0x44, .itemRead tag ⟨len, none⟩), (0x45, .outletSet tag ⟨len, none⟩),
      (0x46, .outletRead tag ⟨len, none⟩), (0x47, .dayRoll tag ⟨len, none⟩), (0x50, .chargeRead tag ⟨len, none⟩),
      (0x51, .chargePosted tag ⟨len, none⟩), (0x58, .lineSet tag ⟨len, none⟩), (0x59, .lineRead tag ⟨len, none⟩),
      (0x5A, .termBind tag ⟨len, none⟩), (0x5B, .termEnable tag ⟨len, none⟩), (0x5C, .termDisable tag ⟨len, none⟩),
      (0x5D, .termRead tag ⟨len, none⟩), (0x60, .logMode tag ⟨len, none⟩), (0x61, .logRead tag ⟨len, none⟩),
      (0x68, .noticeLevel tag ⟨len, none⟩), (0x69, .clockSet tag ⟨len, none⟩), (0x6A, .partStatus tag ⟨len, none⟩),
      (0x6B, .partClear tag ⟨len, none⟩), (0x6C, .partReset tag ⟨len, none⟩)]

end Sys2Proof.Claims

/-- A request whose body has the wrong length or shape is refused FORMAT, a kind that names no request UNKNOWN-KIND; with
8 replies queued, or a PART-RESET waiting, a request only waits (R12, R26, R177, R178, R187), and is served as soon as a reply
begun frees a place. That it is served at once, within its own step, and a waiting one within the very TX_FRAME_BEGIN that frees
the place, before any other event, is the model's choice (log 3). -/
def Obligations.RequestsAnsweredOrWait : Prop :=
  (∀ (tag : Byte) (len kind : Nat) (s : State), Ready s len →
     (∀ p ∈ unshaped tag len, exec p.2 s = .next (replied p.1 tag .format [] s)) ∧
     exec (.unknownKindRequest tag kind len) s = .next (replied kind tag .unknownKind [] s)) ∧
  (∀ (tag : Byte) (req : Request) (s : State), s.powered = true → requestLength req ≤ 1020 →
     (let size := requestLength req + 7
     let held : HeldFrame := { size, tag, req }
     (s.link.fill + size ≤ 2048 → (8 ≤ s.link.replies.length ∨ s.link.resetWaiting = true) →
       exec (commandOf tag req) s = .next { s with
         link :=
           { s.link with frames := s.link.frames ++ [held], flow := s.link.flow.compare (s.link.fill + size) } }) ∧
     (∀ r rs, s.link.frames = [held] → s.link.flow = .flowOpen → s.link.hostPause = false → s.link.resetWaiting = false →
       s.link.replies = r :: rs → rs.length < 8 → s.link.rxBytes.length + size < 1536 →
       exec .txFrameBegin s =
         exec (commandOf tag req) { s with
           link := { s.link with frames := [], replies := rs, sending := some (.reply r) } })))

/-- The receiver's states, byte by byte: WAIT-IDLE discards, HUNTING looks for A5h, a byte that does not fit, a length
over 1,020, a wrong check and a gap drop the frame with their counters; PAUSE and RESUME from the host; the flow state
follows the fill at 1,536 and 512 (R173 to R176). -/
def Obligations.ReceiverTakesBytes : Prop :=
  (∀ (b : Byte) (s : State), s.powered = true →
     (let k := s.link
     let rest := (k.frames.map (fun f => f.size)).sum
     let fill := k.rxBytes.length + rest
     let bumped := fun (n : Nat) => if n < 65535 then n + 1 else n
     let run := exec (.hostRxByte b) s
     let bs := k.rxBytes ++ [b]
     let n := leNat ((bs.drop 1).take 2)
     let dropped := { k with rx := .waitIdle, rxBytes := [], flow := (k.flow.compare (fill + 1)).compare rest }
     (k.rx = .waitIdle → run = .next s ∧ exec .rxGapTimeout s = .next s ∧
       exec .rxIdleTimeout s = .next { s with link := { k with rx := .hunting } }) ∧
     (k.rx = .hunting → exec .rxGapTimeout s = .next s ∧ exec .rxIdleTimeout s = .next s ∧
       (b ≠ 0xA5 → run = .next s)) ∧
     (k.rx = .hunting → b = 0xA5 → k.rxBytes = [] → fill < 2048 →
       run = .next { s with
         link := { k with rx := .receiving, rxBytes := [b], flow := k.flow.compare (fill + 1) } }) ∧
     (k.rx = .receiving →
       exec .rxIdleTimeout s = .next s ∧
       exec .rxGapTimeout s = .next { s with
         link := { k with rx := .hunting, rxBytes := [], gap := bumped k.gap, flow := k.flow.compare rest } } ∧
       (fill < 2048 → bs.length < 3 ∨ (n ≤ 1020 ∧ bs.length < n + 7) →
         run = .next { s with link := { k with rxBytes := bs, flow := k.flow.compare (fill + 1) } }) ∧
       (fill < 2048 → 3 ≤ bs.length → 1020 < n →
         run = .next { s with link := { dropped with overLength := bumped k.overLength } }) ∧
       (fill < 2048 → n ≤ 1020 → bs.length = n + 7 → bs.drop (n + 5) ≠ crcBytes ((bs.drop 1).take (n + 4)) →
         run = .next { s with link := { dropped with badCheck := bumped k.badCheck } })) ∧
     (k.rx = .receiving ∨ (k.rx = .hunting ∧ b = 0xA5) → 2048 ≤ fill →
       run = .next (raise .overrun [.u2 (bumped k.overrun)] { s with
         link :=
           { k with rx := .waitIdle, rxBytes := [], flow := k.flow.compare rest, overrun := bumped k.overrun } })) ∧
     (fill + 7 ≤ 2048 →
       exec .hostPause s = .next { s with
         link := { k with hostPause := true, flow := (k.flow.compare (fill + 7)).compare fill } } ∧
       exec .hostResume s = .next { s with
         link := { k with hostPause := false, flow := (k.flow.compare (fill + 7)).compare fill } }))) ∧
  (∀ fill : Nat,
     (1536 ≤ fill → FlowState.flowOpen.compare fill = .pauseDue ∧ FlowState.pauseDue.compare fill = .pauseDue ∧
       FlowState.paused.compare fill = .paused ∧ FlowState.resumeDue.compare fill = .paused) ∧
     (512 < fill → fill < 1536 → ∀ f : FlowState, f.compare fill = f) ∧
     (fill ≤ 512 → FlowState.flowOpen.compare fill = .flowOpen ∧ FlowState.pauseDue.compare fill = .flowOpen ∧
       FlowState.paused.compare fill = .resumeDue ∧ FlowState.resumeDue.compare fill = .resumeDue))

/-- The transmitter begins PAUSE or RESUME, then nothing while the host pauses it, then the oldest reply, then the oldest
notice of the highest level with the dropped count, which becomes 0 (R180, R183, R187). That nothing is begun behind the
PART-RESET reply until the warm reset, that TX_FRAME_BEGIN is the moment at which the transmitter is idle and chooses, and that
the frame last begun is none where it begins nothing, is the model's choice (log 26). -/
def Obligations.TransmitterChoosesFrame : Prop :=
  ∀ s : State, s.powered = true →
    (let k := s.link
    let run := exec .txFrameBegin s
    let free := (k.flow = .flowOpen ∨ k.flow = .paused) ∧ k.hostPause = false
    (ResetReplySending s → run = .next s) ∧
    (¬ ResetReplySending s →
      (k.flow = .pauseDue → run = .next { s with link := { k with sending := some .pause, flow := .paused } }) ∧
      (k.flow = .resumeDue → run = .next { s with link := { k with sending := some .resume, flow := .flowOpen } }) ∧
      (k.flow = .flowOpen ∨ k.flow = .paused → k.hostPause = true →
        run = .next { s with link := { k with sending := none } }) ∧
      (free → ∀ r rs, k.replies = r :: rs → (k.frames = [] ∨ k.resetWaiting = true) →
        run = .next { s with link := { k with sending := some (.reply r), replies := rs } }) ∧
      (free → k.replies = [] →
        (s.notices.queue = [] → run = .next { s with link := { k with sending := none } }) ∧
        (∀ before n after, s.notices.queue = before ++ n :: after → (∀ x ∈ s.notices.queue, x.level ≤ n.level) →
          (∀ x ∈ before, x.level < n.level) →
          run = .next { s with
            link := { k with sending := some (.notice n s.notices.dropped) }
            notices := { s.notices with queue := before ++ after, dropped := 0 } }))))

namespace Sys2Proof.Claims

/-- The part after some bytes from the host, one after the other. -/
def feed : List Byte → State → Option State
  | [], s => some s
  | b :: bs, s =>
    match exec (.hostRxByte b) s with
    | .next u => feed bs u
    | .fault _ => none
    | .refused _ => none

/-- A number in its width. -/
abbrev Sized := Nat × Nat

/-- An amount of money in 4 bytes, where it fits (R198). -/
def sizedMoney (v : Int) : Option Sized :=
  if -2147483648 ≤ v ∧ v < 2147483648 then some (4, (if v < 0 then v + 4294967296 else v).toNat) else none

/-- A serial: its length, its bytes, zero bytes to fill (R198). -/
def sizedSerial (x : Serial) : Option (List Sized) :=
  if x.length = 4 ∨ x.length = 7 ∨ x.length = 10 then
    some ((1, x.length) :: (x ++ List.replicate (10 - x.length) 0).map (fun (b : Byte) => (1, b.toNat)))
  else none

/-- A list of door numbers: its count, then the numbers (R198). -/
def sizedDoors (ds : List Nat) : List Sized := (1, ds.length) :: ds.map (fun n => (2, n))

/-- A CARD-ISSUE that carries exactly the fields its kind and role hold (R13). -/
def issueLayout : CardIssueReq → Option (List Sized)
  | ⟨1, x, none, none, none, some ds, some account, some adult, some package, some cap, some daily⟩ => do
    let serial ← sizedSerial x
    let money ← sizedMoney cap
    some ([(1, 1)] ++ serial ++ sizedDoors ds ++ [(2, account), (1, adult), (1, package), money, (1, daily)])
  | ⟨2, x, some 1, some sect, some w, some ds, none, none, none, none, none⟩ => do
    let serial ← sizedSerial x
    some ([(1, 2)] ++ serial ++ [(1, 1), (1, sect), (2, w.start), (2, w.stop)] ++ sizedDoors ds)
  | ⟨2, x, some role, none, none, some ds, none, none, none, none, none⟩ => do
    let serial ← sizedSerial x
    if role = 2 ∨ role = 3 then some ([(1, 2)] ++ serial ++ [(1, role)] ++ sizedDoors ds) else none
  | ⟨3, x, none, none, none, none, none, none, none, none, none⟩ => do
    let serial ← sizedSerial x
    some ([(1, 3)] ++ serial)
  | _ => none

/-- A TERM-BIND (R154). -/
def bindLayout : TermBindReq → Option (List Sized)
  | ⟨t, .unbound⟩ => some [(1, t.line), (1, t.addr), (1, 0)]
  | ⟨t, .door n k⟩ => some [(1, t.line), (1, t.addr), (1, 1), (2, n), (1, k)]
  | ⟨t, .bar o⟩ => some [(1, t.line), (1, t.addr), (1, 2), (1, o)]
  | ⟨t, .gateFirst n⟩ => some [(1, t.line), (1, t.addr), (1, 3), (1, n)]
  | ⟨t, .gateSecond n⟩ => some [(1, t.line), (1, t.addr), (1, 4), (1, n)]
  | ⟨_, .unassigned _⟩ => none

/-- A code or number of width w, absent as the highest value of its width (R198). -/
def sizedOr (w : Nat) : Option Nat → Option Sized
  | none => some (w, 256 ^ w - 1)
  | some v => if v = 256 ^ w - 1 then none else some (w, v)

/-- A CARD-SET whose fields without an absent encoding are all there and in range (R18). -/
def cardSetLayout : CardSetReq → Option (List Sized)
  | ⟨record, role, sect, some w, some ds, account, some adult, package, some cap, some daily⟩ => do
    let r ← sizedOr 1 role
    let k ← sizedOr 1 sect
    let a ← sizedOr 2 account
    let g ← sizedOr 1 package
    let m ← sizedMoney cap
    if w.start ≤ 1439 ∧ w.stop ≤ 1439 ∧ ds.length ≤ 3 ∧ adult ≤ 1 ∧ 0 ≤ cap ∧ cap ≤ 5000 ∧ daily ≤ 30 then
      some ([(2, record), r, k, (2, w.start), (2, w.stop)] ++ sizedDoors ds ++ [a, (1, adult), g, m, (1, daily)])
    else none
  | _ => none

/-- An ACCOUNT-SET whose four fields are all there and in range (R101). -/
def accountSetLayout : AccountSetReq → Option (List Sized)
  | ⟨account, some balance, some limit, some allowance, some discount⟩ => do
    let b ← sizedMoney balance
    let l ← sizedMoney limit
    let a ← sizedMoney allowance
    if -10000000 ≤ balance ∧ balance ≤ 100000000 ∧ 0 ≤ limit ∧ limit ≤ 100000000 ∧ 0 ≤ allowance ∧
        allowance ≤ 5000000 ∧ discount ≤ 5000 then
      some [(2, account), b, l, a, (2, discount)]
    else none
  | _ => none

/-- The fields of a request's body in order, each with its width; none for a request with a wrong body, and where a field is
absent, or out of range, that R198 gives no absent encoding (R198; log 8). -/
def bodyLayout : Request → Option (List Sized)
  | .cardIssue ⟨_, some q⟩ => issueLayout q
  | .cardReissue ⟨_, some q⟩ => (sizedSerial q.serial).map (fun x => (2, q.record) :: x)
  | .cardStatus ⟨_, some q⟩ => some [(2, q.record), (1, q.status)]
  | .cardSet ⟨_, some q⟩ => cardSetLayout q
  | .cardVacate ⟨_, some n⟩ => some [(2, n)]
  | .cardRead ⟨_, some n⟩ => some [(2, n)]
  | .cardFind ⟨_, some x⟩ => sizedSerial x
  | .presenceSet ⟨_, some q⟩ => some [(2, q.record), (1, q.presence)]
  | .conflictClear ⟨_, some n⟩ => some [(2, n)]
  | .countRead ⟨_, some _⟩ => some []
  | .tripOpen ⟨_, some q⟩ => some [(1, q.trip), (1, q.boat), (1, q.capacity), (1, q.lane)]
  | .tripCastoff ⟨_, some n⟩ => some [(1, n)]
  | .tripClear ⟨_, some n⟩ => some [(1, n)]
  | .tripRead ⟨_, some q⟩ => some [(1, q.trip), (1, q.start)]
  | .callSet ⟨_, some n⟩ => some [(1, n)]
  | .sail ⟨_, some n⟩ => some [(1, n)]
  | .arrive ⟨_, some _⟩ => some []
  | .leftRead ⟨_, some n⟩ => some [(2, n)]
  | .laneSet ⟨_, some q⟩ =>
    some [(1, q.lane), (1, q.direction), (1, q.chain), (1, q.tripRequired), (2, q.pacing), (1, q.firstTimeout),
      (1, q.secondTimeout), (1, q.stopLinked)]
  | .laneRead ⟨_, some n⟩ => some [(1, n)]
  | .doorConfig ⟨_, some q⟩ =>
    some [(1, q.overrideWindow), (1, q.streakThreshold), (2, q.holdTime), (2, q.ajarTime), (1, q.lowTrip),
      (1, q.critTrip), (1, q.hysteresis), (1, q.filterCount)]
  | .doorRead ⟨_, some n⟩ => some [(2, n)]
  | .doorOpen ⟨_, some n⟩ => some [(2, n)]
  | .accountSet ⟨_, some q⟩ => accountSetLayout q
  | .accountClose ⟨_, some n⟩ => some [(2, n)]
  | .accountRead ⟨_, some n⟩ => some [(2, n)]
  | .itemSet ⟨_, some q⟩ =>
    (sizedMoney q.price).map (fun m => [(2, q.item), m, (1, q.category), (1, q.adultOnly), (1, q.state)])
  | .itemRead ⟨_, some n⟩ => some [(2, n)]
  | .outletSet ⟨_, some q⟩ =>
    (sizedMoney q.ceiling).map (fun m => [(1, q.outlet), (2, q.rate), m, (1, q.honoured), (2, q.timeout)])
  | .outletRead ⟨_, some n⟩ => some [(1, n)]
  | .dayRoll ⟨_, some _⟩ => some []
  | .chargeRead ⟨_, some n⟩ => some [(4, n)]
  | .chargePosted ⟨_, some n⟩ => some [(4, n)]
  | .lineSet ⟨_, some q⟩ => some [(1, q.line), (1, q.rate), (1, q.enabled), (1, q.slowPermitted)]
  | .lineRead ⟨_, some q⟩ => some [(1, q.line), (1, q.clear)]
  | .termBind ⟨_, some q⟩ => bindLayout q
  | .termEnable ⟨_, some t⟩ => some [(1, t.line), (1, t.addr)]
  | .termDisable ⟨_, some t⟩ => some [(1, t.line), (1, t.addr)]
  | .termRead ⟨_, some t⟩ => some [(1, t.line), (1, t.addr)]
  | .logMode ⟨_, some n⟩ => some [(1, n)]
  | .logRead ⟨_, some _⟩ => some []
  | .noticeLevel ⟨_, some q⟩ => some [(1, q.cls), (1, q.level)]
  | .clockSet ⟨_, some q⟩ => some [(2, q.day), (3, q.sec)]
  | .partStatus ⟨_, some n⟩ => some [(1, n)]
  | .partClear ⟨_, some _⟩ => some []
  | .partReset ⟨_, some _⟩ => some []
  | _ => none

/-- The bytes of a body from its layout, each field low byte first. -/
def layoutBytes (ls : List Sized) : List Byte := ls.flatMap (fun p => leBytes p.1 p.2)

end Sys2Proof.Claims

/-- A request written out in the widths of R198 is read back as the same request, for every kind, every value that its width
holds and every absent field that has an absent encoding (R198). Where R198 leaves widths or the layout of CARD-ISSUE,
TERM-BIND, CARD-SET and ACCOUNT-SET open, it is the model's choice (logs 8, 10 and 11). -/
def Obligations.RequestBodyReadsBack : Prop :=
  ∀ (r : Request) (ls : List Sized), bodyLayout r = some ls → (∀ p ∈ ls, p.2 < 256 ^ p.1) →
    requestLength r = (layoutBytes ls).length → wireRequest (requestKind r) (layoutBytes ls) = r

/-- A whole frame fed byte by byte to a hunting receiver does what the command of its request does, and a flow frame what
HOST_PAUSE and HOST_RESUME do, whatever its tag (R172 to R177). That these commands stand for whole frames is the model's
choice (log 2). -/
def Obligations.FrameBytesActAsCommand : Prop :=
  ∀ (kind : Nat) (tag : Byte) (body : List Byte) (s : State), Ready s body.length → s.link.rx = .hunting →
    s.link.rxBytes = [] → kind < 256 →
    (kind ≠ 0x71 → kind ≠ 0x72 →
      ∃ u, exec (commandOf tag (wireRequest kind body)) s = .next u ∧ feed (frameBytes kind tag body) s = some u) ∧
    (∃ u, exec .hostPause s = .next u ∧ feed (frameBytes 0x71 tag body) s = some u) ∧
    (∃ u, exec .hostResume s = .next u ∧ feed (frameBytes 0x72 tag body) s = some u)

/-! ## The field lines -/

namespace Sys2Proof.Claims

/-- A reply frame of a terminal with the right check: address, kind, echo, event toggle, more-pending, battery, event
(R199). -/
def replyFrame (addr kind : Nat) (echo toggle more : Bool) (battery : Nat) (event : Option (List Byte)) : List Byte :=
  let bytes := event.getD []
  let inner :=
    [lowByte addr, lowByte kind, lowByte (echo.toNat + 2 * toggle.toNat + 4 * more.toNat + 8 * event.isSome.toNat),
      lowByte battery, lowByte bytes.length] ++ bytes
  0xC3 :: (inner ++ crcBytes inner)

/-- The exchange in progress on a line is with an address, its terminal not disabled since (R162, R156). -/
def Polling (s : State) (t : TermId) : Prop :=
  TermInRange t ∧ ∃ p, (s.line t.line).exchange = some p ∧ p.addr = t.addr ∧ p.stale = false

/-- What every good reply leaves in the terminal record, one without an event: no miss, the kind seen, the more-pending,
and the event toggle where that was unknown (R160, R161, R163). -/
def heard (x : Terminal) (kind : Nat) (toggle more : Bool) : Terminal :=
  { x with
    misses := 0, kindSeen := TermKind.ofNum kind, more
    eventToggle := if x.eventToggle = none then some toggle else x.eventToggle }

/-- The kind of a reply is the one the binding expects; a binding of none expects none (R152, R165). -/
def KindFits (b : Binding) (kind : Nat) : Prop := b.expects = none ∨ b.expects = TermKind.ofNum kind

/-- The binding is no door's: the reply's battery reading is not used. -/
def NoDoor (b : Binding) : Prop := ∀ n k, b ≠ .door n k

/-- The serial field of an event (R198, R199). -/
def serialBytes (x : Serial) : List Byte := lowByte x.length :: (x ++ List.replicate (10 - x.length) 0)

/-- The command that stands for the acknowledgement of a command outstanding at a terminal (R159). -/
def Acknowledges (t : TermId) (c : Command) (i : Instr) : Prop :=
  (c = .openLock ∧ i = .openAck t) ∨ (∃ k, c = .show k ∧ i = .showAck t) ∨ (c = .release ∧ i = .releaseAck t) ∨
  (c = .revoke ∧ i = .revokeAck t) ∨ (∃ total service drinks, c = .quote total service drinks ∧ i = .quoteAck t) ∨
  (∃ r, c = .result r ∧ i = .resultAck t)

/-- The reports of a door unit with the bytes that carry them, and the command that stands for each (R199, R160). -/
def DoorReport (t : TermId) (bytes : List Byte) (i : Instr) : Prop :=
  (∃ x, SerialLength x ∧ bytes = 1 :: serialBytes x ∧ i = .doorPresent t x) ∨
  (∃ on : Bool, bytes = [5, if on then 1 else 0] ∧ i = .doorPrivacy t on) ∨
  (∃ v : Bool, bytes = [6, if v then 1 else 0] ∧ i = .doorContact t v)

/-- The reports of a terminal with the bytes that carry them, and the command that stands for each (R199, R160). -/
def EventCarried (t : TermId) (b : Binding) (bytes : List Byte) (i : Instr) : Prop :=
  ((∃ n k, b = .door n k) ∧ DoorReport t bytes i) ∨
  ((∃ n, b = .gateFirst n ∨ b = .gateSecond n) ∧
    ((bytes = [4] ∧ i = .gatePassed t) ∨
      ∃ x, SerialLength x ∧ bytes = 1 :: serialBytes x ∧ i = .gatePresent t x)) ∨
  ((∃ o, b = .bar o) ∧
    ((bytes = [3, 1] ∧ i = .barKeyConfirm t) ∨ (bytes = [3, 2] ∧ i = .barKeyCancel t) ∨
      ∃ (x : Serial) (ls : List OrderLine), SerialLength x ∧ ls.length ≤ 80 ∧ (∀ k ∈ ls, k.item < 65536 ∧ k.qty < 256) ∧
        bytes = 2 :: (serialBytes x ++ lowByte ls.length ::
          ls.flatMap (fun k => [lowByte k.item, lowByte (k.item / 256), lowByte k.qty])) ∧
        i = .barPurchase t x ls))

/-- The kind of an event, its first byte, is one that R160 lists for the binding: 1 PRESENT, 2 PURCHASE, 3 KEY, 4 PASSED,
5 PRIVACY, 6 CONTACT; a binding of none has none listed. -/
def EventListed (b : Binding) (bytes : List Byte) : Prop :=
  ∃ k, bytes.head? = some k ∧
    match b with
    | .unbound => False
    | .door .. => k = 1 ∨ k = 5 ∨ k = 6
    | .bar _ => k = 2 ∨ k = 3
    | .gateFirst _ => k = 1 ∨ k = 4
    | .gateSecond _ => k = 1 ∨ k = 4

/-- An event's length agrees with its own fields, and a value of one byte is one of the kind's (R199; as to the value it is
the model's reading, log 24). -/
def EventFits : List Byte → Prop
  | [] => False
  | k :: bs =>
    let serial := bs.head? = some 4 ∨ bs.head? = some 7 ∨ bs.head? = some 10
    (k = 1 ∧ bs.length = 11 ∧ serial) ∨ (k = 2 ∧ serial ∧ ∃ c, bs[11]? = some c ∧ bs.length = 12 + 3 * c.toNat) ∨
    (k = 3 ∧ (bs = [1] ∨ bs = [2])) ∨ (k = 4 ∧ bs = []) ∨ ((k = 5 ∨ k = 6) ∧ (bs = [0] ∨ bs = [1]))

/-- An event that is taken and discarded: any of a terminal bound to nothing, one of a kind not listed for the binding, one
that does not fit its own fields (R160, R199). -/
def EventDiscarded (b : Binding) (bytes : List Byte) : Prop := ¬ (EventListed b bytes ∧ EventFits bytes)

/-- What the event of a reply does once it is taken: what its own command does, and nothing where it is discarded. -/
def EventDoes (t : TermId) (b : Binding) (bytes : List Byte) (f : State → Host.Outcome State Fault Refusal) : Prop :=
  (∃ i, EventCarried t b bytes i ∧ f = exec i) ∨ (EventDiscarded b bytes ∧ f = .next)

/-- What a reply does from w on, of a terminal that was x, by its event alone: a repeat of the one taken last does nothing,
any other does what f does (R160). -/
def EventTaken (x : Terminal) (toggle : Bool) (f : State → Host.Outcome State Fault Refusal)
    (run : Host.Outcome State Fault Refusal) (w : State) : Prop :=
  (x.eventToggle = some toggle → ∃ u, run = .next u ∧ PollsMoved w u) ∧
  (x.eventToggle ≠ some toggle → ∃ v u, f w = .next v ∧ run = .next u ∧ PollsMoved v u)

/-- The same of a reply that acknowledges a command as well, j: the two are taken in an order that is free, the free value
of the n-th such reply (R161; log 7). -/
def AckAndEventTaken (x : Terminal) (toggle : Bool) (f : State → Host.Outcome State Fault Refusal) (j : Instr)
    (run : Host.Outcome State Fault Refusal) (w : State) : Prop :=
  (x.eventToggle = some toggle → ∃ v u, exec j w = .next v ∧ run = .next u ∧ PollsMoved v u) ∧
  (x.eventToggle ≠ some toggle →
    ∃ a b u, (if Config.ackFirst w.choice then exec j else f) { w with choice := w.choice + 1 } = .next a ∧
      (if Config.ackFirst w.choice then f else exec j) a = .next b ∧ run = .next u ∧ PollsMoved b u)

/-- What a good reply does, with or without an event, whose kind is another than the binding expects: the terminal is
MISMATCH with its notice and its first probe due 2 s after the reply, its event is not handed on nor its toggle taken, and one
that was ONLINE leaves ONLINE with what its block does then (R165, R166). What the notice and the toggle leave open is the
model's choice (logs 22, 35, 15, 13, 28, 11 and 51). -/
def MismatchMade (t : TermId) (kind : Nat) (more : Bool) (s : State) (run : Host.Outcome State Fault Refusal) : Prop :=
  let x := s.term t
  ∀ k, x.binding.expects = some k → TermKind.ofNum kind ≠ some k →
    (let told := raise .mismatch
      ([.term (some t)] ++ bindFields x.binding ++ [.code (some k.num), .code ((TermKind.ofNum kind).map TermKind.num)])
    let wrong := { x with misses := 0, kindSeen := TermKind.ofNum kind, more, online := .mismatch }
    let Made := fun (v : State) =>
      ∃ u, run = .next u ∧ PollsMoved v u ∧ (u.term t).probeDue = some (s.now + 2000)
    (x.online = .probing ∨ x.online = .offline → Made (told (s.setTerm t wrong))) ∧
    (x.online = .online → ∀ v, LossTold t x (told (s.setTerm t { wrong with outstanding := none })) v → Made v))

end Sys2Proof.Claims

/-- A good reply without an event clears the misses and leaves its kind, more-pending and toggle; its echo acknowledges the
command, with what that acknowledgement does; it brings a PROBING or OFFLINE terminal ONLINE, with no probe due (these of a
terminal that is no door: a door's battery is in DoorReplyFeedsBatteryFilter); a wrong kind makes any terminal MISMATCH, its
first probe due 2 s after the reply, an ONLINE one leaving ONLINE with what its block does then, and no later reply ends
MISMATCH (R160 to R166). The kind seen of an unassigned kind, the event toggle left by MISMATCH, MISMATCH raised before the
block's own notices, what HOST-OPEN-FAILED carries, where the card of an abandoned OPEN was held, the layout of a binding, the
absent reason of UNCERTAIN, and at a MISMATCH terminal what a sweep leaves, are the model's choice (logs 22, 35, 15, 13, 28, 11,
51, 23 and 44). -/
def Obligations.GoodReplyUsed : Prop :=
  ∀ (t : TermId) (kind : Nat) (echo toggle more : Bool) (battery : Nat) (s : State), s.powered = true → Polling s t →
    kind < 256 → battery < 256 →
    (let x := s.term t
    let y := heard x kind toggle more
    let run := exec (.fieldReply t.line (replyFrame t.addr kind echo toggle more battery none)) s
    let back := s.setTerm t { y with online := .online, toggle := some echo, probeDue := none }
    (KindFits x.binding kind → NoDoor x.binding →
      (x.online = .online → (x.outstanding = none ∨ x.toggle ≠ some echo) →
        ∃ u, run = .next u ∧ PollsMoved (s.setTerm t y) u) ∧
      (x.online = .online → ∀ c i, x.outstanding = some c → x.toggle = some echo → Acknowledges t c i →
        ∃ v u, exec i (s.setTerm t y) = .next v ∧ run = .next u ∧ PollsMoved v u) ∧
      (x.online = .online → x.outstanding.isSome → x.toggle = some echo →
        (∃ n, (x.binding = .gateFirst n ∨ x.binding = .gateSecond n) ∧ (s.lane n).passage = none) →
        ∃ u, run = .next u ∧ PollsMoved (s.setTerm t { y with outstanding := none }) u) ∧
      (x.online = .probing → x.outstanding = none →
        ∃ u, run = .next u ∧ PollsMoved back u ∧ (u.term t).probeDue = none) ∧
      (x.online = .offline → x.outstanding = none →
        ∃ u, run = .next u ∧ PollsMoved (raise .online ([.term (some t)] ++ bindFields x.binding) back) u ∧
          (u.term t).probeDue = none)) ∧
    MismatchMade t kind more s run ∧
    (x.online = .mismatch →
      (let w := s.setTerm t y
      ∃ u, run = .next u ∧ PollChosen (if more then runningAgain t.line w else w) t.line u)))

/-- A good reply that carries an event, of a terminal that is no door: one whose toggle was taken last is discarded, any other
is taken and does what the report's own command does; so for an ONLINE terminal, and in the very reply that brings a PROBING
or OFFLINE one ONLINE; beside an acknowledgement each of the two does what its own command does, in an order that is free. An
event of an unbound terminal, of a kind not listed for the binding or that does not fit its own fields is taken and does
nothing, but that the line sees an event. In a reply of the wrong kind the event is not handed on; of a MISMATCH terminal it is
acknowledged and discarded, whatever the kind (R160, R161, R164, R165, R168, R199). The free order is the model's free value
(log 7); the layout of a binding, which values fit a kind, that a MISMATCH terminal's event is not counted as taken on the line
nor the event that ends SLOW for the next sweep, what a sweep leaves, and what MismatchMade names are the model's choice (logs
11, 24, 44, 23, 22, 35, 15, 13, 28 and 51). A door unit's events are in DoorReplyFeedsBatteryFilter. -/
def Obligations.ReportInReplyTaken : Prop :=
  ∀ (t : TermId) (kind : Nat) (echo toggle more : Bool) (battery : Nat) (bytes : List Byte) (s : State),
    s.powered = true → Polling s t → kind < 256 → battery < 256 → bytes.length < 256 →
    (let x := s.term t
    let y := { heard x kind toggle more with eventToggle := some toggle }
    let run := exec (.fieldReply t.line (replyFrame t.addr kind echo toggle more battery (some bytes))) s
    let w := s.setTerm t y
    let back := s.setTerm t { y with online := .online, toggle := some echo, probeDue := none }
    let noEcho := x.outstanding = none ∨ x.toggle ≠ some echo
    let polled := if more then runningAgain t.line w else w
    (KindFits x.binding kind → NoDoor x.binding →
      (∀ f, EventDoes t x.binding bytes f →
        (x.online = .online → noEcho → EventTaken x toggle f run w) ∧
        (x.online = .probing → x.outstanding = none → EventTaken x toggle f run back) ∧
        (x.online = .offline → x.outstanding = none →
          EventTaken x toggle f run (raise .online ([.term (some t)] ++ bindFields x.binding) back)) ∧
        (x.online = .online → ∀ c j, x.outstanding = some c → x.toggle = some echo → Acknowledges t c j →
          AckAndEventTaken x toggle f j run w)) ∧
      (EventDiscarded x.binding bytes → x.online = .online → noEcho →
        (x.eventToggle = some toggle → ∃ u, run = .next u ∧ PollChosen polled t.line u) ∧
        (x.eventToggle ≠ some toggle →
          ∃ u, run = .next u ∧
            PollChosen
              (runningAgain t.line (polled.setLine t.line { polled.line t.line with sweepEvent := true })) t.line u))) ∧
    MismatchMade t kind more s run ∧
    (x.online = .mismatch → ∃ u, run = .next u ∧ PollChosen polled t.line u))

namespace Sys2Proof.Claims

/-- The rows of R93 that have a target: from the state held, by the reading. -/
def BatteryRow (c : DoorSettings) (held : BatteryState) (r : Nat) (target : BatteryState) : Prop :=
  ((held = .unknown ∨ held = .good ∨ held = .low) ∧ r < c.critTrip ∧ target = .critical) ∨
  ((held = .unknown ∨ held = .good) ∧ c.critTrip ≤ r ∧ r < c.lowTrip ∧ target = .low) ∨
  (held = .unknown ∧ c.critTrip ≤ r ∧ c.lowTrip ≤ r ∧ target = .good) ∨
  (held = .low ∧ c.critTrip ≤ r ∧ c.lowTrip + c.hysteresis ≤ r ∧ target = .good) ∨
  (held = .critical ∧ c.critTrip + c.hysteresis ≤ r ∧ target = .low)

/-- A battery reading of a door unit used: without a target the run empties, with one it counts, and at the filter count the
state moves with its notice and entry (R93). -/
def BatteryUsed (t : TermId) (d : Door) (r : Nat) (s w : State) : Prop :=
  let c := s.doors.settings
  ((∀ target, ¬ BatteryRow c d.battery r target) ∧ w = s.setDoor t { d with run := none }) ∨
  (∃ target count, BatteryRow c d.battery r target ∧
    ((∃ m, d.run = some ⟨target, m⟩ ∧ count = m + 1) ∨ ((∀ m, d.run ≠ some ⟨target, m⟩) ∧ count = 1)) ∧
    ((count < c.filterCount ∧ w = s.setDoor t { d with run := some ⟨target, count⟩ }) ∨
    (c.filterCount ≤ count ∧
      w = writeEntry .battery (some t) none (some (.battery target)) [.reading r]
        (raise .battery [.num (some d.number), .term (some t), .u1 target.num, .u1 r]
          (s.setDoor t { d with battery := target, run := none })))))

end Sys2Proof.Claims

/-- The battery reading of a door unit's good reply feeds the filter, of an ONLINE unit and of one that the reply brings ONLINE;
its echo acknowledges the command and its event is taken once, each as its own command, one without the other or both in one
reply, in an order that is free, and the event also in the very reply that brings a PROBING or OFFLINE unit ONLINE; an event of
a kind not listed for a door, or that does not fit its own fields, is taken and does nothing (R93, R159 to R161, R164, R199).
That the reading is used before the acknowledgement and the event, the layout of the binding in the notice ONLINE, and which
values fit a kind is the model's choice (logs 42, 11 and 24), the free order its free value (log 7). -/
def Obligations.DoorReplyFeedsBatteryFilter : Prop :=
  ∀ (t : TermId) (echo toggle more : Bool) (r : Nat) (n k : Nat) (d : Door) (s w : State), s.powered = true →
    Polling s t → (s.term t).binding = .door n k → s.door? t = some d → r < 256 →
    (let x := s.term t
    let y := heard x 1 toggle more
    let z := { y with eventToggle := some toggle }
    let reply := fun e => exec (.fieldReply t.line (replyFrame t.addr 1 echo toggle more r e)) s
    let back := fun (v : Terminal) => s.setTerm t { v with online := .online, toggle := some echo, probeDue := none }
    let told := raise .online ([.term (some t)] ++ bindFields x.binding)
    let noEcho := x.outstanding = none ∨ x.toggle ≠ some echo
    (x.online = .online → BatteryUsed t d r (s.setTerm t y) w →
      (noEcho → ∃ u, reply none = .next u ∧ PollsMoved w u) ∧
      (∀ c i, x.outstanding = some c → x.toggle = some echo → Acknowledges t c i →
        ∃ v u, exec i w = .next v ∧ reply none = .next u ∧ PollsMoved v u)) ∧
    (x.online = .probing → x.outstanding = none → BatteryUsed t d r (back y) w →
      ∃ u, reply none = .next u ∧ PollsMoved w u) ∧
    (x.online = .offline → x.outstanding = none → BatteryUsed t d r (told (back y)) w →
      ∃ u, reply none = .next u ∧ PollsMoved w u) ∧
    (∀ bytes f, bytes.length < 256 → EventDoes t x.binding bytes f →
      (x.online = .online → BatteryUsed t d r (s.setTerm t z) w →
        (noEcho → EventTaken x toggle f (reply (some bytes)) w) ∧
        (∀ c j, x.outstanding = some c → x.toggle = some echo → Acknowledges t c j →
          AckAndEventTaken x toggle f j (reply (some bytes)) w)) ∧
      (x.online = .probing → x.outstanding = none → BatteryUsed t d r (back z) w →
        EventTaken x toggle f (reply (some bytes)) w) ∧
      (x.online = .offline → x.outstanding = none → BatteryUsed t d r (told (back z)) w →
        EventTaken x toggle f (reply (some bytes)) w)))

namespace Sys2Proof.Claims

/-- A counter that rises by one and stays at 65,535. -/
def risen (n : Nat) : Nat := if n < 65535 then n + 1 else n

/-- A reply frame that is a bad check: another first byte than the sync byte, bytes that do not fit the event length (the
model's reading, log 24), or another check than that of the bytes between (R162, R199). -/
def BadFrame (frame : List Byte) : Prop :=
  frame.head? ≠ some 0xC3 ∨ frame.length < 8 ∨ (∃ n, frame[5]? = some n ∧ frame.length ≠ n.toNat + 8) ∨
    frame.drop (frame.length - 2) ≠ crcBytes ((frame.drop 1).take (frame.length - 3))

/-- The four failures of an exchange, as commands, each with the line record after its counter has risen (R149, R162). -/
def Failure (s : State) (t : TermId) (i : Instr) (y : Line) : Prop :=
  (i = .replyTimeout t.line ∧ y = { s.line t.line with noReply := risen (s.line t.line).noReply }) ∨
  (i = .replyGapTimeout t.line ∧ y = { s.line t.line with truncated := risen (s.line t.line).truncated }) ∨
  ((∃ frame, i = .fieldReply t.line frame ∧ BadFrame frame) ∧
    y = { s.line t.line with badCheck := risen (s.line t.line).badCheck }) ∨
  ((∃ b kind echo toggle more r e, i = .fieldReply t.line (replyFrame b kind echo toggle more r e) ∧ b ≠ t.addr ∧
      b < 256 ∧ (e.getD []).length < 256) ∧
    y = { s.line t.line with wrongAddress := risen (s.line t.line).wrongAddress })

end Sys2Proof.Claims

/-- A failed exchange raises its line counter and counts a miss of a PROBING or ONLINE terminal; the third in a row makes
the terminal OFFLINE with a notice, and one that was ONLINE leaves ONLINE with what its block does then (R149, R162, R163,
R166); one whose terminal was disabled since counts nothing (R156), and without an exchange nothing happens: what these two
count, that a frame which does not fit itself is a bad check, that OFFLINE is raised before the block's own notices, what
HOST-OPEN-FAILED carries, where the card of an abandoned OPEN was held, the layout of the binding in OFFLINE and the absent
reason of UNCERTAIN is the model's choice (logs 21, 24, 15, 13, 28, 11 and 51). -/
def Obligations.MissesMakeOffline : Prop :=
  ∀ (t : TermId) (i : Instr) (y : Line) (s : State), s.powered = true →
    ((s.line t.line).exchange = none → exec (.replyTimeout t.line) s = .next s ∧
      exec (.replyGapTimeout t.line) s = .next s ∧ ∀ frame, exec (.fieldReply t.line frame) s = .next s) ∧
    (∀ p, (s.line t.line).exchange = some p → p.stale = true →
      ∃ u, exec (.replyTimeout t.line) s = .next u ∧ PollsMoved s u) ∧
    (Polling s t → Failure s t i y →
      let x := s.term t
      let w := s.setLine t.line y
      (x.online = .offline ∨ x.online = .mismatch → ∃ u, exec i s = .next u ∧ PollsMoved w u) ∧
      (x.online = .probing ∨ x.online = .online → x.misses < 2 →
        ∃ u, exec i s = .next u ∧ PollsMoved (w.setTerm t { x with misses := x.misses + 1 }) u) ∧
      (2 ≤ x.misses →
        let told := raise .offline ([.term (some t)] ++ bindFields x.binding ++ [.u1 1])
        (x.online = .probing →
          ∃ u, exec i s = .next u ∧ PollsMoved (told (w.setTerm t { x with misses := 0, online := .offline })) u ∧
            (u.term t).probeDue = some (s.now + 2000)) ∧
        (x.online = .online →
          ∀ v, LossTold t x (told (w.setTerm t { x with misses := 0, online := .offline, outstanding := none })) v →
            ∃ u, exec i s = .next u ∧ PollsMoved v u ∧ (u.term t).probeDue = some (s.now + 2000))))

/-- The arbiter chooses by R167 when an exchange ends, when a probe falls due or a slow sweep begins on a free line, and when
there is something new to poll for: priority polls, four in a row at most, then a due probe, then the round. At the end of a
sweep a line enters SLOW where every condition holds; it returns to RUNNING for a terminal enabled, an event taken, a
more-pending reply (R149, R156, R164, R165, R167, R168; a passage granted: GrantOpensPassage; a command placed:
BarKeysExpiryAndAcknowledgements; a quote created: PurchaseOpensQuote). That a due probe moves the time base on, which
terminals a slow sweep takes, that it drops what the last one has left, when a round counts as passed, what SLOW leaves of
the priority run, that the event which returns a line from SLOW is not counted for the next sweep, and that the exchange of a
terminal disabled since raises no line counter, is the model's choice (logs 5, 21, 23 and 44). -/
def Obligations.ProbesAndSlowSweepsPoll : Prop :=
  (∀ (t : TermId) (s : State), s.powered = true → TermInRange t →
    (let x := s.term t
    let line := s.line t.line
    let run := exec (.probeDue t) s
    let onlineAddresses :=
      ((List.range 31).map (· + 1)).filter (fun b => (s.term ⟨t.line, b⟩).online = .online)
    let sweeping := s.setLine t.line { line with slowLeft := onlineAddresses }
    (x.online = .disabled ∨ x.online = .probing ∨ x.online = .online ∨ x.probeDue = none → run = .next s) ∧
    (∀ d, x.online = .offline ∨ x.online = .mismatch → x.probeDue = some d →
      let now := max s.now d
      (line.exchange.isSome ∨ line.state = .stopped ∨ line.state = .fault → run = .next { s with now }) ∧
      (line.exchange = none → line.state = .running ∨ line.state = .slow →
        ∃ u, run = .next u ∧ PollChosen { s with now } t.line u)) ∧
    (line.state ≠ .slow → exec (.slowSweep t.line) s = .next s) ∧
    (line.state = .slow →
      (line.exchange.isSome → exec (.slowSweep t.line) s = .next sweeping) ∧
      (line.exchange = none → ∃ u, exec (.slowSweep t.line) s = .next u ∧ PollChosen sweeping t.line u)) ∧
    (∀ p, line.exchange = some p → p.stale = true →
      ∃ u, exec (.replyTimeout t.line) s = .next u ∧ PollChosen s t.line u))) ∧
  (∀ (tag : Byte) (len : Nat) (t : TermId) (s : State), Ready s len → TermInRange t → (s.term t).online = .disabled →
    (s.line t.line).enabled = true → (s.line t.line).state = .running ∨ (s.line t.line).state = .slow →
    ∃ u, exec (.termEnable tag ⟨len, some t⟩) s = .next (replied 0x5B tag .ok [.u1 1] u) ∧
      Woken (s.setTerm t (terminalStarted { s.term t with enabled := true })) t.line u) ∧
  (∀ (t : TermId) (o : Nat) (y : Slot) (q : Quote) (s : State), s.powered = true → TermInRange t →
    (s.term t).online = .online → (s.term t).binding = .bar o → s.slot? t = some y → y.quote = some q → q.shown = false →
    (s.line t.line).state = .running ∨ (s.line t.line).state = .slow →
    ∃ u, exec (.barKeyConfirm t) s = .next u ∧
      Woken (s.setLine t.line { s.line t.line with sweepEvent := true }) t.line u) ∧
  (∀ (t : TermId) (kind : Nat) (echo toggle more : Bool) (battery : Nat) (s : State), s.powered = true → Polling s t →
    kind < 256 → battery < 256 → (s.term t).online = .online → (s.term t).binding = .unbound →
    (s.term t).outstanding = none ∨ (s.term t).toggle ≠ some echo →
    (let w := s.setTerm t (heard (s.term t) kind toggle more)
    ∃ u, exec (.fieldReply t.line (replyFrame t.addr kind echo toggle more battery none)) s = .next u ∧
      PollChosen (if more then runningAgain t.line w else w) t.line u))

namespace Sys2Proof.Claims

/-- The terminals of a line at some addresses have left ONLINE for OFFLINE, one after the other, each with what the block of
its binding does then (R166, R169). -/
def LossesTold (l : Nat) : List Nat → State → State → Prop
  | [], s, w => w = s
  | a :: rest, s, w =>
    ∃ v, LossTold ⟨l, a⟩ (s.term ⟨l, a⟩)
        (s.setTerm ⟨l, a⟩ { s.term ⟨l, a⟩ with online := .offline, outstanding := none }) v ∧
      LossesTold l rest v w

end Sys2Proof.Claims

/-- A broken line is in FAULT without an exchange, its settings and counters as they were, its ONLINE and PROBING terminals
OFFLINE, those that were ONLINE with all that their blocks do then, and one notice; found restored it is in RUNNING with its
notice, the probe of every OFFLINE or MISMATCH terminal falls due at once, and the line chooses by R167 (R169, R164, R166, R167,
R64, R87, R94, R132). That the terminals are lost in rising order, before the notice, that the probe due is left as it was in
FAULT, that nothing of a sweep is left by FAULT and a new one begins with RUNNING, what HOST-OPEN-FAILED carries, where the card
of an abandoned OPEN was held and the absent reason of UNCERTAIN is the model's choice (logs 15, 29, 23, 13, 28 and 51). -/
def Obligations.LineBreaksAndRecovers : Prop :=
  ∀ (l : Nat) (s : State), s.powered = true → 1 ≤ l → l ≤ 8 →
    (let line := s.line l
    let struck := fun (x : TermId) =>
      x.line = l ∧ ((s.term x).online = .online ∨ (s.term x).online = .probing)
    let count := (((List.range 31).map (· + 1)).filter (fun a =>
      (s.term ⟨l, a⟩).online = .online ∨ (s.term ⟨l, a⟩).online = .probing)).length
    let broken := { line with state := .fault, exchange := none, inSweep := false, sweepEvent := false, slowLeft := [] }
    let restored := { line with state := .running, inSweep := false, sweepEvent := false, slowLeft := [] }
    (line.state = .stopped ∨ line.state = .fault → exec (.lineBreak l) s = .next s) ∧
    (line.state = .running ∨ line.state = .slow →
      ∃ u, exec (.lineBreak l) s = .next u ∧ u.line l = broken ∧
        (∀ k, k ≠ l → u.line k = s.line k) ∧ (∀ x, ¬ struck x → u.term x = s.term x) ∧
        (∀ x, x.line = l → (s.term x).online = .probing → u.term x = { s.term x with online := .offline }) ∧
        (∀ x, x.line = l → (s.term x).online = .online →
          u.term x = { s.term x with online := .offline, outstanding := none }) ∧
        (∀ w, LossesTold l (((List.range 31).map (· + 1)).filter (fun a => (s.term ⟨l, a⟩).online = .online)) s w →
          { u with field := w.field } = raise .lineFault [.u1 l, .u1 count] w)) ∧
    (exec (.lineFaultCheck l false) s = .next s) ∧
    (line.state ≠ .fault → exec (.lineFaultCheck l true) s = .next s) ∧
    (line.state = .fault →
      ∃ w u, exec (.lineFaultCheck l true) s = .next u ∧ (u.line l).state = .running ∧
        { w with field := { w.field with terms := s.field.terms } } =
          raise .lineRestored [.u1 l] (s.setLine l restored) ∧
        (∀ x, w.term x =
          if x.line = l ∧ ((s.term x).online = .offline ∨ (s.term x).online = .mismatch) then
            { s.term x with probeDue := some s.now }
          else s.term x) ∧
        (line.exchange.isSome → u = w) ∧ (line.exchange = none → NextPoll w l restored u)))

/-! ## Doors -/

namespace Sys2Proof.Claims

/-- The terminal is a door unit, ONLINE, with its record. -/
def DoorUnitOnline (s : State) (t : TermId) (d : Door) : Prop :=
  s.powered = true ∧ TermInRange t ∧ (s.term t).online = .online ∧ (∃ n k, (s.term t).binding = .door n k) ∧
    s.door? t = some d

/-- A serial presented stands for an ACTIVE record (R9). -/
def PresentsActive (s : State) (x : Serial) (n : Nat) (c : Card) : Prop :=
  s.indexed x = some n ∧ s.card? n = some c ∧ c.status = .active

/-- The lookup of a serial refuses with a code, and finds this record, if any (R9). -/
def LookupRefuses (s : State) (x : Serial) (code : Code) (record : Option Nat) : Prop :=
  (s.indexed x = none ∧ x ∈ s.register.withdrawn ∧ code = .withdrawn ∧ record = none) ∨
  (s.indexed x = none ∧ x ∉ s.register.withdrawn ∧ code = .unknown ∧ record = none) ∨
  (∃ n c, s.indexed x = some n ∧ s.card? n = some c ∧ record = some n ∧
    ((c.status = .suspended ∧ code = .suspended) ∨ (c.status = .lost ∧ code = .lost)))

/-- The notice of a lookup that refuses: WITHDRAWN-SEEN or LOST-SEEN (R10). -/
def lookupSeen (t : TermId) (x : Serial) (code : Code) (record : Option Nat) (s : State) : State :=
  if code = .withdrawn then raise .withdrawnSeen [.serial x, .term (some t)] s
  else if code = .lost then raise .lostSeen [.num record, .serial x, .term (some t)] s
  else s

/-- A minute inside a shift window (R3). -/
def MinuteInside (w : Window) (m : Nat) : Prop :=
  (w.start < w.stop ∧ w.start ≤ m ∧ m < w.stop) ∨ (w.stop < w.start ∧ (w.start ≤ m ∨ m < w.stop)) ∨ w.start = w.stop

/-- The outcome of an ACTIVE card at a door by steps 1 to 7 of R77 (R78 to R82). -/
def DoorOutcome (s : State) (n : Nat) (c : Card) (d : Door) (code : Code) : Prop :=
  let own := d.number ∈ c.doors
  let attendant := c.kind = .crew ∧ c.role = some .attendant ∧ c.sect = some d.sect
  let onShift := ∃ now w, s.clock = some now ∧ c.window = some w ∧ MinuteInside w (now.sec / 60)
  let security := c.kind = .crew ∧ c.role = some .security
  (c.kind = .master ∧ code = .opened) ∨
  (c.kind ≠ .master ∧ d.hold.isSome ∧ code = .held) ∨
  (c.kind ≠ .master ∧ d.hold = none ∧
    ((own ∧ code = .opened) ∨
    (¬ own ∧ attendant ∧ ¬ onShift ∧ code = .notPermitted) ∨
    (¬ own ∧ attendant ∧ onShift ∧ d.battery = .critical ∧ code = .battery) ∨
    (¬ own ∧ attendant ∧ onShift ∧ d.battery ≠ .critical ∧ d.privacy = true ∧ code = .privacy) ∨
    (¬ own ∧ attendant ∧ onShift ∧ d.battery ≠ .critical ∧ d.privacy = false ∧ code = .opened) ∨
    (¬ own ∧ security ∧ d.privacy = false ∧ code = .opened) ∨
    (¬ own ∧ security ∧ d.privacy = true ∧ (d.window = none ∨ ∃ e, d.window = some ⟨n, e⟩) ∧ code = .overrideWait) ∨
    (¬ own ∧ security ∧ d.privacy = true ∧ (∃ m e, d.window = some ⟨m, e⟩ ∧ m ≠ n) ∧ code = .opened) ∨
    (¬ own ∧ ¬ attendant ∧ ¬ security ∧ code = .notPermitted)))

/-- OPEN for OPENED, SHOW for any other outcome (R84). -/
def doorCommand (code : Code) : Command := if code = .opened then .openLock else .show code

end Sys2Proof.Claims

/-- A presentation at a door is decided by the steps of R77, and its outcome delivered by one command where the unit has
none outstanding; privacy, contact and battery do not move, nor any other terminal or door (R77 to R82, R84). -/
def Obligations.DoorOutcomeFollowsAccessRule : Prop :=
  ∀ (t : TermId) (x : Serial) (code : Code) (d : Door) (s : State), DoorUnitOnline s t d →
    ((∃ n c, PresentsActive s x n c ∧ DoorOutcome s n c d code) ∨
      (∃ record, LookupRefuses s x code record ∧ d.hold = none) ∨
      (∃ why record, LookupRefuses s x why record ∧ d.hold.isSome ∧ code = .held)) →
    ∃ u, exec (.doorPresent t x) s = .next u ∧
      { u.term t with probeDue := none } =
        { (if (s.term t).outstanding = none then commanded (s.term t) (doorCommand code) else s.term t) with
          probeDue := none } ∧
      (∀ y, y ≠ t → { u.term y with probeDue := none } = { s.term y with probeDue := none } ∧ u.door? y = s.door? y) ∧
      (∃ e, u.door? t = some e ∧ e.number = d.number ∧ e.sect = d.sect ∧ e.privacy = d.privacy ∧
        e.contact = d.contact ∧ e.alarm = d.alarm ∧ e.battery = d.battery ∧ e.lastOpen = d.lastOpen) ∧
      u.register.index = s.register.index ∧ u.register.withdrawn = s.register.withdrawn ∧
      u.presence.aboard = s.presence.aboard ∧ u.presence.ashore = s.presence.ashore ∧
      { u with
        register := s.register, presence := s.presence, doors := s.doors, field := s.field, notices := s.notices
        log := s.log } = s

namespace Sys2Proof.Claims

/-- The part once a card that decides at steps 4 to 7 of R77 is marked, where it is ASHORE (R80, R28). -/
def ashoreMarked (t : TermId) (n : Nat) (c : Card) (s : State) : State :=
  if c.presence = .ashore then conflictSetTo n c .ashoreUse [.term (some t), .code none] s else s

end Sys2Proof.Claims

/-- A card that opens a door by steps 4 to 6 (its own list, an ATTENDANT on shift, a SECURITY card with privacy OFF): the
streak is 0, the entry names the door of an own list, a card ASHORE is marked; a MASTER card opens any door and, delivered,
ends a hold and an override window; at a busy unit nothing is placed and the entry says BUSY (R78, R80 to R82, R84, R85,
R95). That the streak's time stays, the BUSY entry has no door number, HOLD-END stands before the DOOR entry with its
cause first, and the card of an OPEN is held in the door record is the model's choice (logs 39, 16, 15, 46 and 28). -/
def Obligations.OwnDoorAndMasterOpen : Prop :=
  (∀ (t : TermId) (x : Serial) (n : Nat) (c : Card) (d : Door) (s : State), DoorUnitOnline s t d →
     PresentsActive s x n c → c.kind ≠ .master → DoorOutcome s n c d .opened →
     (d.number ∈ c.doors ∨ d.privacy = false) →
     (let marked := ashoreMarked t n c s
     ((s.term t).outstanding = none →
       ∃ u, exec (.doorPresent t x) s = .next u ∧
         PollsMoved (writeEntry .door (some t) (some n) (some (.code .opened))
           (if d.number ∈ c.doors then [.doorNumber d.number] else [])
           ((marked.setTerm t (commanded (s.term t) .openLock)).setDoor t
             { d with streak := 0, openCard := some n, hostOpen := false })) u) ∧
     ((s.term t).outstanding.isSome →
       ∃ u, exec (.doorPresent t x) s = .next u ∧
         PollsMoved (writeEntry .door (some t) (some n) (some (.code .busy)) [.outcome .opened] marked) u))) ∧
  (∀ (t : TermId) (x : Serial) (n : Nat) (c : Card) (d : Door) (s : State), DoorUnitOnline s t d →
     PresentsActive s x n c → c.kind = .master →
     (let opened := (s.setTerm t (commanded (s.term t) .openLock)).setDoor t
       { d with hold := none, window := none, streak := 0, openCard := some n, hostOpen := false }
     let held :=
       match d.hold with
       | none => opened
       | some h => writeEntry .holdEnd (some t) none none [.reason .master, .heldCount h.held] opened
     ((s.term t).outstanding = none →
       ∃ u, exec (.doorPresent t x) s = .next u ∧
         PollsMoved (writeEntry .door (some t) (some n) (some (.code .opened))
           (if d.window.isSome then [.reason .windowEnded] else [])
           (raise .masterOpen [.num (some d.number), .term (some t), .num (some n)] held)) u) ∧
     ((s.term t).outstanding.isSome →
       ∃ u, exec (.doorPresent t x) s = .next u ∧
         PollsMoved (writeEntry .door (some t) (some n) (some (.code .busy)) [.outcome .opened] s) u)))

namespace Sys2Proof.Claims

/-- A presentation at a door without a hold is refused with a code that the streak counts, by the lookup or as BATTERY,
PRIVACY or NOT-PERMITTED; seen is the part with the lookup's notice, or with an ASHORE card marked (R77, R80, R81, R85). -/
def DoorRefuses (t : TermId) (x : Serial) (code : Code) (record : Option Nat) (d : Door) (s seen : State) : Prop :=
  (LookupRefuses s x code record ∧ d.hold = none ∧ seen = lookupSeen t x code record s) ∨
  (∃ n c, PresentsActive s x n c ∧ record = some n ∧ DoorOutcome s n c d code ∧
    (code = .battery ∨ code = .privacy ∨ code = .notPermitted) ∧ seen = ashoreMarked t n c s)

/-- A presentation at a door in HOLD is HELD: every one but a MASTER card's (R77, R79). -/
def DoorHolds (t : TermId) (x : Serial) (record : Option Nat) (s seen : State) : Prop :=
  (∃ code, LookupRefuses s x code record ∧ seen = lookupSeen t x code record s) ∨
  (∃ n c, PresentsActive s x n c ∧ c.kind ≠ .master ∧ record = some n ∧ seen = s)

end Sys2Proof.Claims

/-- A presentation refused at a door by the lookup, or as BATTERY, PRIVACY or NOT-PERMITTED: SHOW placed where the unit is
free, an ASHORE card marked, the streak raised whether shown or not; the refusal that brings the streak to the threshold
puts the door in HOLD, with notice and entry; in HOLD every presentation but a MASTER card's is HELD, marks nothing, and
only the held count rises (R77, R79 to R81, R84 to R86, R95). The details of a HELD entry at a busy unit, the streak's time
in HOLD, the one detail of HOLD-START and CONFLICT-SET raised before HOLD-START are the model's choice (logs 16, 39, 41 and
15). -/
def Obligations.DoorRefusalsLeadToHold : Prop :=
  ∀ (t : TermId) (x : Serial) (record : Option Nat) (d : Door) (s seen : State), DoorUnitOnline s t d →
    (let shown := fun (c : Code) =>
      if (s.term t).outstanding = none then seen.setTerm t (commanded (s.term t) (.show c)) else seen
    let entry := fun (c : Code) (held : List Detail) (w : State) =>
      if (s.term t).outstanding = none then writeEntry .door (some t) record (some (.code c)) held w
      else writeEntry .door (some t) record (some (.code .busy)) ([.outcome c] ++ held) w
    let time := s.doors.settings.holdTime
    (∀ code, DoorRefuses t x code record d s seen →
      (let refused := entry code [] ((shown code).setDoor t { d with streak := d.streak + 1, streakTime := some s.now })
      (d.streak + 1 < s.doors.settings.streakThreshold →
        ∃ u, exec (.doorPresent t x) s = .next u ∧ PollsMoved refused u) ∧
      (s.doors.settings.streakThreshold ≤ d.streak + 1 →
        ∃ u, exec (.doorPresent t x) s = .next u ∧
          PollsMoved
            (writeEntry .holdStart (some t) record none [.holdTime time]
              (raise .holdStart [.num (some d.number), .term (some t), .u2 time, .num record]
                (refused.setDoor t
                  { d with streak := 0, streakTime := some s.now, hold := some ⟨s.now + 1000 * time, 0⟩ }))) u))) ∧
    (∀ e k, d.hold = some ⟨e, k⟩ → DoorHolds t x record s seen →
      ∃ u, exec (.doorPresent t x) s = .next u ∧
        PollsMoved (entry .held [.heldCount (risen k)]
          ((shown .held).setDoor t { d with hold := some ⟨e, risen k⟩ })) u))

/-- The two-card override at a door with privacy ON: the first SECURITY card opens a window and waits, the same card waits
on, another opens the door and closes the window; a busy unit shows nothing and keeps the window, a card ASHORE is marked
(R80, R82 to R84, R95). That CONFLICT-SET is raised before OVERRIDE-START and OVERRIDE-DONE, the streak's time stays, the
card of an OPEN is held in the door record and the opening's entry carries no WINDOW-ENDED is the model's choice (logs 15,
39, 28 and 48). -/
def Obligations.SecondSecurityCardOverrides : Prop :=
  ∀ (t : TermId) (x : Serial) (n : Nat) (c : Card) (d : Door) (s : State), DoorUnitOnline s t d →
    PresentsActive s x n c → c.kind = .crew → c.role = some .security → d.number ∉ c.doors →
    d.hold = none → d.privacy = true →
    (let time := s.doors.settings.overrideWindow
    let free := (s.term t).outstanding = none
    let marked := ashoreMarked t n c s
    let placed := fun (k : Command) => if free then marked.setTerm t (commanded (s.term t) k) else marked
    let entry := fun (k : Code) =>
      writeEntry .door (some t) (some n) (some (.code (if free then k else .busy))) (if free then [] else [.outcome k])
    let Gives := fun (w : State) => ∃ u, exec (.doorPresent t x) s = .next u ∧ PollsMoved w u
    (d.window = none →
      Gives (entry .overrideWait
        (raise .overrideStart [.num (some d.number), .term (some t), .num (some n), .u1 time]
          ((placed (.show .overrideWait)).setDoor t { d with window := some ⟨n, s.now + 1000 * time⟩ })))) ∧
    (∀ e, d.window = some ⟨n, e⟩ → Gives (entry .overrideWait (placed (.show .overrideWait)))) ∧
    (∀ m e, d.window = some ⟨m, e⟩ → m ≠ n →
      (free →
        Gives (entry .opened
          (raise .overrideDone [.num (some d.number), .term (some t), .num (some m), .num (some n)]
            ((placed .openLock).setDoor t
              { d with window := none, streak := 0, openCard := some n, hostOpen := false })))) ∧
      (¬ free → Gives (entry .opened marked))))

/-- PRIVACY and CONTACT reports: a new privacy is written with its entry and OFF ends a window; the contact opens with its
ajar timing, FORCED where the part did not release it, and closes with CLOSED-AGAIN after an alarm (R83, R89 to R92). The
width of CLOSED-AGAIN's time open, and PRIVACY's entry before OVERRIDE-LAPSED's, are the model's choice (logs 11 and
15). -/
def Obligations.DoorReportsTaken : Prop :=
  ∀ (t : TermId) (d : Door) (s : State), DoorUnitOnline s t d → Canonical s →
    (let privacy := fun on => exec (.doorPrivacy t on) s
    let contact := fun v => exec (.doorContact t v) s
    let Gives := fun (run : Host.Outcome State Fault Refusal) (w : State) => ∃ u, run = .next u ∧ PollsMoved w u
    let ajarTime := s.doors.settings.ajarTime
    let opened :=
      { d with
        contact := .contactOpen, openSince := some s.now, alarm := .noAlarm
        ajar := some ⟨s.now + 1000 * ajarTime, ajarTime⟩ }
    let closed := { d with contact := .contactClosed, ajar := none, alarm := .noAlarm }
    let released := (s.term t).outstanding = some .openLock ∨ ∃ at_, d.lastOpen = some at_ ∧ s.now - at_ ≤ 10000
    let seconds := (s.now - d.openSince.getD s.now) / 1000
    Gives (privacy d.privacy) s ∧
    (∀ on, on ≠ d.privacy → on = true ∨ d.window = none →
      Gives (privacy on)
        (writeEntry .privacy (some t) none (some (.privacy on)) [] (s.setDoor t { d with privacy := on }))) ∧
    (∀ m e, d.privacy = true → d.window = some ⟨m, e⟩ →
      Gives (privacy false)
        (writeEntry .overrideLapsed (some t) (some m) none [.reason .privacyOff]
          (writeEntry .privacy (some t) none (some (.privacy false)) []
            (s.setDoor t { d with privacy := false, window := none })))) ∧
    (d.contact = .unknown →
      Gives (contact true) (s.setDoor t opened) ∧
      Gives (contact false) (s.setDoor t { d with contact := .contactClosed })) ∧
    (d.contact = .contactClosed →
      Gives (contact false) s ∧
      (released → Gives (contact true) (s.setDoor t opened)) ∧
      (¬ released →
        Gives (contact true)
          (writeEntry .forced (some t) none none []
            (raise .forced [.num (some d.number), .term (some t)] (s.setDoor t { opened with alarm := .forced }))))) ∧
    (d.contact = .contactOpen →
      Gives (contact true) s ∧
      (d.alarm = .noAlarm → Gives (contact false) (s.setDoor t closed)) ∧
      (d.alarm ≠ .noAlarm →
        Gives (contact false)
          (writeEntry .closedAgain (some t) none none [.timeOpen seconds]
            (raise .closedAgain [.num (some d.number), .term (some t), .ms (some seconds)] (s.setDoor t closed))))))

/-- The acknowledgement of an OPEN or a SHOW at a door unit, and the four timers of a door: override window, hold, ajar
and quiet period (R83, R85 to R87, R92, R159). That a timer's command moves the time base to its expiry and does nothing
where the timer does not run, that the streak's time stays, what HOST-OPEN-DONE carries, that HOLD-END's cause stands before its
held count, where the card of an OPEN is held, and that OPEN_ACK and SHOW_ACK change nothing where no command is outstanding,
is the model's choice (logs 5, 39, 13, 46, 28 and 20). -/
def Obligations.DoorAcknowledgementsAndTimers : Prop :=
  (∀ (t : TermId) (d : Door) (s : State), DoorUnitOnline s t d →
     (let freed := s.setTerm t { s.term t with outstanding := none }
     let opened := freed.setDoor t { d with lastOpen := some s.now, hostOpen := false, openCard := none }
     ((s.term t).outstanding = some .openLock →
       (d.hostOpen = false → exec (.openAck t) s = .next opened) ∧
       (d.hostOpen = true →
         exec (.openAck t) s = .next (writeEntry .hostOpenDone (some t) none none [.doorNumber d.number]
           (raise .hostOpenDone [.num (some d.number), .term (some t)] opened)))) ∧
     (∀ c, (s.term t).outstanding = some (.show c) → exec (.showAck t) s = .next freed) ∧
     ((s.term t).outstanding = none → exec (.openAck t) s = .next s ∧ exec (.showAck t) s = .next s))) ∧
  (∀ (t : TermId) (d : Door) (s : State), s.powered = true → s.door? t = some d →
     (let at_ := fun (e : Nat) => { s with now := max s.now e }
     (d.window = none → exec (.overrideWindowExpiry t) s = .next s) ∧
     (∀ m e, d.window = some ⟨m, e⟩ →
       exec (.overrideWindowExpiry t) s = .next (writeEntry .overrideLapsed (some t) (some m) none []
         ((at_ e).setDoor t { d with window := none }))) ∧
     (d.hold = none → exec (.holdExpiry t) s = .next s) ∧
     (∀ e k, d.hold = some ⟨e, k⟩ →
       exec (.holdExpiry t) s = .next (writeEntry .holdEnd (some t) none none [.reason .expired, .heldCount k]
         ((at_ e).setDoor t { d with hold := none }))) ∧
     (d.ajar = none → exec (.ajarExpiry t) s = .next s) ∧
     (∀ e k, d.ajar = some ⟨e, k⟩ →
       exec (.ajarExpiry t) s = .next (writeEntry .ajar (some t) none none [.ajarTime k]
         (raise .ajar [.num (some d.number), .term (some t), .u2 k]
           ((at_ e).setDoor t
             { d with
               ajar := none
               alarm := if d.alarm = .forced ∨ d.alarm = .forcedAndAjar then .forcedAndAjar else .ajar })))) ∧
     (d.streak = 0 ∨ d.streakTime = none → exec (.streakQuietExpiry t) s = .next s) ∧
     (∀ e, d.streak ≠ 0 → d.streakTime = some e →
       exec (.streakQuietExpiry t) s = .next ((at_ (e + 60000)).setDoor t { d with streak := 0 }))))

/-! ## Gates and passages -/

namespace Sys2Proof.Claims

/-- The terminal is an ONLINE gate of a lane (R49, R152). -/
def GateOnline (s : State) (t : TermId) (n : Nat) (g : Gate) : Prop :=
  s.powered = true ∧ TermInRange t ∧ 1 ≤ n ∧ n ≤ 8 ∧ (s.term t).online = .online ∧
    ((g = .first ∧ (s.term t).binding = .gateFirst n) ∨ (g = .second ∧ (s.term t).binding = .gateSecond n))

/-- A gate that is not there or not ONLINE (R51). -/
def GateMissing (s : State) (g : Option TermId) : Prop := ∀ t, g = some t → (s.term t).online ≠ .online

/-- The lane is DOWN (R51). -/
def Down (s : State) (n : Nat) : Prop :=
  GateMissing s (s.lane n).first ∨ ((s.lane n).chain = .double ∧ GateMissing s (s.lane n).second)

/-- The lane's stop input is asserted (R55, check 3). -/
def Stopped (s : State) (n : Nat) : Prop :=
  ((s.lane n).stopLinked = some .stopA ∧ s.stops.stopA.asserted = true) ∨
    ((s.lane n).stopLinked = some .stopB ∧ s.stops.stopB.asserted = true)

/-- The call state refuses the lane (R41, R55, check 4). -/
def Closed (s : State) (n : Nat) : Prop :=
  s.presence.call = .sailing ∨ (s.presence.call = .closing ∧ (s.lane n).direction = .out)

/-- A boat is required and none is there (R55, check 7). -/
def NoBoat (s : State) (n : Nat) : Prop :=
  (s.lane n).direction = .out ∧ (s.lane n).tripRequired = true ∧ (s.lane n).trip = 0

/-- The boat has no seat left: manifest length and OUT passages in flight for the trip reach its capacity (R37; R55, check
8). -/
def BoatFull (s : State) (n : Nat) : Prop :=
  (s.lane n).direction = .out ∧ (s.lane n).trip ≠ 0 ∧
    ∃ tr, s.trip? (s.lane n).trip = some tr ∧
      tr.capacity ≤ tr.manifest.length +
        (((List.range 8).map (fun k => (s.lane (k + 1)).passage)).filter
          (fun p => (p.map (fun q => (q.direction, q.trip))) = some (.out, (s.lane n).trip))).length

/-- A card's quote voided for a passage, if it holds one: d is the card record and w the part after it (R56, R130, R131). -/
def QuoteVoided (s : State) (k : Nat) (c d : Card) (w : State) : Prop :=
  (c.quote = none ∧ d = c ∧ w = s) ∨
  (∃ b y q a, c.quote = some b ∧ TermInRange b ∧ (s.term b).online = .online ∧ (∃ o, (s.term b).binding = .bar o) ∧
    s.slot? b = some y ∧ y.quote = some q ∧ q.card = k ∧ s.account? q.account = some a ∧
    d = { c with drinksHeld := c.drinksHeld - q.drinks, quote := none } ∧
    w = delivered b (.result (.voided .passage)) (quoteReleased b y q c a s))

/-- What a presentation of an ACTIVE card at a lane's gate is refused with, by the order of R54 and R55. -/
def GateRefusal (s : State) (n : Nat) (g : Gate) (c : Card) (code : Code) : Prop :=
  let busy := (s.lane n).passage.isSome
  (g = .second ∧ code = .wrongWay) ∨
  (g = .first ∧ Down s n ∧ code = .laneDown) ∨
  (g = .first ∧ ¬ Down s n ∧
    ((busy ∧ code = .busy) ∨
    (¬ busy ∧ Stopped s n ∧ code = .stopped) ∨
    (¬ busy ∧ ¬ Stopped s n ∧ Closed s n ∧ code = .closed) ∨
    (¬ busy ∧ ¬ Stopped s n ∧ ¬ Closed s n ∧
      ((c.kind = .master ∧ code = .notPermitted) ∨
      (c.kind ≠ .master ∧ c.passage.isSome ∧ code = .busy) ∨
      (c.kind ≠ .master ∧ c.passage = none ∧ NoBoat s n ∧ code = .noBoat) ∨
      (c.kind ≠ .master ∧ c.passage = none ∧ ¬ NoBoat s n ∧ BoatFull s n ∧ code = .full)))))

end Sys2Proof.Claims

/-- A presentation at a gate that the lookup or the checks refuse: SHOW is placed where the lane has no passage and the
terminal no command outstanding; nothing else changes but the lookup's notice (R10, R54, R55). -/
def Obligations.GateRefusalShown : Prop :=
  ∀ (t : TermId) (n : Nat) (g : Gate) (x : Serial) (code : Code) (seen s : State), GateOnline s t n g →
    ((∃ record, LookupRefuses s x code record ∧ seen = lookupSeen t x code record s) ∨
      (∃ k c, PresentsActive s x k c ∧ GateRefusal s n g c code ∧ seen = s)) →
    ∃ u, exec (.gatePresent t x) s = .next u ∧
      PollsMoved
        (if (s.lane n).passage = none ∧ (s.term t).outstanding = none then
          seen.setTerm t (commanded (s.term t) (.show code))
        else seen) u

/-- A granted presentation voids the card's open quote with reason PASSAGE and opens a passage: the card names the lane; with
pacing off and the gate free it is FIRST-SENDING with RELEASE placed, else it waits; a line of the lane's gates in SLOW
returns to RUNNING (R55 to R58, R131, R168). -/
def Obligations.GrantOpensPassage : Prop :=
  ∀ (t : TermId) (n k : Nat) (x : Serial) (c d : Card) (s w : State), GateOnline s t n .first →
    (s.lane n).first = some t → PresentsActive s x k c → ¬ Down s n → (s.lane n).passage = none → ¬ Stopped s n →
    ¬ Closed s n → c.kind ≠ .master → c.passage = none → ¬ NoBoat s n → ¬ BoatFull s n → QuoteVoided s k c d w →
    (let l := s.lane n
    let opened := fun (st : PassageState) (placed : Bool) =>
      ({ w with
        register := { w.register with cards := w.register.cards.insert k { d with passage := some n } } }).setLane n
        { l with
          passage := some
            { card := k, grantTime := s.now, direction := l.direction, trip := l.trip, state := st, expiry := none
              releasePlaced := placed } }
    let Wakes := fun (u : State) =>
      ∀ h, h = t ∨ l.second = some h → TermInRange h → (s.line h.line).state = .slow → (u.line h.line).state = .running
    (l.pacing = 0 → (s.term t).outstanding = none →
      ∃ u, exec (.gatePresent t x) s = .next u ∧ Wakes u ∧
        PollsMoved ((opened .firstSending true).setTerm t (commanded (s.term t) .release)) u) ∧
    (l.pacing ≠ 0 ∨ (s.term t).outstanding.isSome →
      ∃ u, exec (.gatePresent t x) s = .next u ∧ Wakes u ∧ PollsMoved (opened .waitingPace false) u))

/-- A passage moves on: the pacing tick releases the first gate, the RELEASE's acknowledgement starts the timeout, the
timeout places REVOKE, the REVOKE's acknowledgement ends the passage NOT-TAKEN or INCOMPLETE; the acknowledgement of any
other command lets a RELEASE that waits for its gate be placed, and moves the passage no further (R58, R59, R62, R63, R69).
That a timeout's command moves the time base to the expiry and does nothing where no timeout runs, and that the notices
NOT-TAKEN and INCOMPLETE have the byte of a reason, absent, is the model's choice (logs 5 and 51). -/
def Obligations.PassageMovesOn : Prop :=
  ∀ (t : TermId) (n : Nat) (g : Gate) (p : Passage) (c : Card) (s : State), GateOnline s t n g →
    (s.lane n).gate g = some t → (s.lane n).passage = some p → s.card? p.card = some c →
    (let l := s.lane n
    let x := s.term t
    let free := x.outstanding = none
    let move := fun (q : Passage) (w : State) => w.setLane n { l with passage := some q }
    let freed := s.setTerm t { x with outstanding := none }
    (g = .first →
      (l.pacing = 0 ∨ p.state ≠ .waitingPace ∨ ¬ free → exec (.pacingTick n) s = .next s) ∧
      (l.pacing ≠ 0 → p.state = .waitingPace → free →
        ∃ u, exec (.pacingTick n) s = .next u ∧
          PollsMoved ((move { p with state := .firstSending, releasePlaced := true } s).setTerm t
            (commanded x .release)) u) ∧
      (x.outstanding = some .release → p.state = .firstSending → p.releasePlaced = true →
        exec (.releaseAck t) s = .next
          (move { p with state := .firstReleased, expiry := some (s.now + 1000 * l.firstTimeout) } freed)) ∧
      (p.state ≠ .firstReleased → exec (.firstGateTimeout n) s = .next s) ∧
      (∀ e, p.state = .firstReleased → p.expiry = some e → free →
        ∃ u, exec (.firstGateTimeout n) s = .next u ∧
          PollsMoved ((move { p with state := .firstRevoking, expiry := none } { s with now := max s.now e }).setTerm t
            (commanded x .revoke)) u) ∧
      (x.outstanding = some .revoke → p.state = .firstRevoking →
        exec (.revokeAck t) s = .next (passageEnded n p .notTaken (cardFreed p.card c freed))) ∧
      (∀ k i, x.outstanding = some k → Acknowledges t k i →
        (p.state = .waitingPace → l.pacing = 0 →
          ∃ u, exec i s = .next u ∧
            PollsMoved ((move { p with state := .firstSending, releasePlaced := true } s).setTerm t
              (commanded x .release)) u) ∧
        ((p.state = .waitingPace → l.pacing ≠ 0) →
          ¬ (k = .release ∧ p.state = .firstSending ∧ p.releasePlaced = true) →
          ¬ (k = .revoke ∧ p.state = .firstRevoking) → exec i s = .next freed))) ∧
    (g = .second →
      (x.outstanding = some .release → p.state = .secondSending → p.releasePlaced = true →
        exec (.releaseAck t) s = .next
          (move { p with state := .secondReleased, expiry := some (s.now + 1000 * l.secondTimeout) } freed)) ∧
      (p.state ≠ .secondReleased → exec (.secondGateTimeout n) s = .next s) ∧
      (∀ e, p.state = .secondReleased → p.expiry = some e → free →
        ∃ u, exec (.secondGateTimeout n) s = .next u ∧
          PollsMoved ((move { p with state := .secondRevoking, expiry := none } { s with now := max s.now e }).setTerm t
            (commanded x .revoke)) u) ∧
      (x.outstanding = some .revoke → p.state = .secondRevoking →
        exec (.revokeAck t) s = .next (passageEnded n p .incomplete (cardFreed p.card c freed))) ∧
      (∀ k i, x.outstanding = some k → Acknowledges t k i →
        (p.state = .secondSending → p.releasePlaced = false →
          ∃ u, exec i s = .next u ∧
            PollsMoved ((move { p with releasePlaced := true } s).setTerm t (commanded x .release)) u) ∧
        ((p.state = .secondSending → p.releasePlaced = true) → ¬ (k = .release ∧ p.state = .secondSending) →
          ¬ (k = .revoke ∧ p.state = .secondRevoking) → exec i s = .next freed))))

namespace Sys2Proof.Claims

/-- The passage waits on this gate with its RELEASE placed (R57, R60, R61). -/
def AwaitsGate (p : Passage) (g : Gate) : Prop := p.releasePlaced = true ∧ WaitsOn p g

/-- The presence unit after a COMPLETED passage of a card over a lane, in the rows of R30 and R31. -/
def CompletedOver (s : State) (n : Nat) (p : Passage) (c : Card) (w : State) : Prop :=
  let u := s.presence
  let d := { c with passage := none }
  let entry : ManifestEntry := { record := p.card, time := s.clock, returned := false, byCorrection := false }
  let gone := { u with aboard := u.aboard - 1, ashore := u.ashore + 1 }
  let back := { u with aboard := u.aboard + 1, ashore := u.ashore - 1 }
  let missed := fun (e : Card) (r : ConflictReason) (v : PresenceUnit) =>
    conflictSetTo p.card e r [.term none, .code (some n)]
      { s with register := { s.register with cards := s.register.cards.insert p.card e }, presence := v }
  (p.direction = .out ∧ c.presence = .aboard ∧ p.trip = 0 ∧
    w = presenceMoved p.card { d with presence := .ashore, trip := 0 } 1 gone s) ∨
  (p.direction = .out ∧ c.presence = .aboard ∧ p.trip ≠ 0 ∧ ∃ tr, s.trip? p.trip = some tr ∧
    w = presenceMoved p.card { d with presence := .ashore, trip := p.trip } 1
      { gone with trips := u.trips.insert p.trip { tr with manifest := tr.manifest ++ [entry] } } s) ∨
  (p.direction = .inward ∧ c.presence = .ashore ∧ c.trip = 0 ∧
    w = presenceMoved p.card { d with presence := .aboard, trip := 0 } 1 back s) ∨
  (p.direction = .inward ∧ c.presence = .ashore ∧ c.trip ≠ 0 ∧ ∃ tr m, s.trip? c.trip = some tr ∧
    MarksReturned p.card false tr.manifest m ∧
    w = presenceMoved p.card { d with presence := .aboard, trip := 0 } 1
      { back with trips := u.trips.insert c.trip (settledTrip tr m) } s) ∨
  (p.direction = .out ∧ c.presence = .ashore ∧ c.trip = 0 ∧ p.trip = 0 ∧
    w = missed { d with trip := 0 } .missedReturn u) ∨
  (p.direction = .out ∧ c.presence = .ashore ∧ c.trip ≠ 0 ∧ p.trip = 0 ∧ ∃ tr m, s.trip? c.trip = some tr ∧
    MarksReturned p.card true tr.manifest m ∧
    w = missed { d with trip := 0 } .missedReturn { u with trips := u.trips.insert c.trip (settledTrip tr m) }) ∨
  (p.direction = .out ∧ c.presence = .ashore ∧ c.trip = 0 ∧ p.trip ≠ 0 ∧ ∃ tr, s.trip? p.trip = some tr ∧
    w = missed { d with trip := p.trip } .missedReturn
      { u with trips := u.trips.insert p.trip { tr with manifest := tr.manifest ++ [entry] } }) ∨
  (p.direction = .out ∧ c.presence = .ashore ∧ c.trip ≠ 0 ∧ p.trip ≠ 0 ∧ ∃ tr m, s.trip? c.trip = some tr ∧
    MarksReturned p.card true tr.manifest m ∧
    (let trips := u.trips.insert c.trip (settledTrip tr m)
    ∃ tr', trips.find p.trip = some tr' ∧
      w = missed { d with trip := p.trip } .missedReturn
        { u with trips := trips.insert p.trip { tr' with manifest := tr'.manifest ++ [entry] } })) ∨
  (p.direction = .inward ∧ c.presence = .aboard ∧ w = missed d .missedDeparture u)

end Sys2Proof.Claims

/-- PASSED from the last gate of the chain, with its RELEASE placed, ends the passage COMPLETED with the presence of R30
and R31; from the first gate of a DOUBLE lane it goes on to the second, or ends UNCERTAIN without it; any PASSED that no
passage awaits is stray: a notice and an entry alone (R59 to R61, R68 to R70). STRAY's gate byte, its entry before its
notice, and the absent reason of COMPLETED and UNCERTAIN are the model's choice (logs 14, 15 and 51). -/
def Obligations.PassedMovesCompletesOrIsStray : Prop :=
  (∀ (t : TermId) (n : Nat) (g : Gate) (s : State), GateOnline s t n g →
     (∀ p c w, (s.lane n).passage = some p → AwaitsGate p g → (g = .second ∨ (s.lane n).chain = .single) →
       s.card? p.card = some c → c.kind ≠ .master → CompletedOver s n p c w →
       ∃ u, exec (.gatePassed t) s = .next u ∧ PollsMoved (passageEnded n p .completed w) u) ∧
     ((∀ p, (s.lane n).passage = some p → ¬ AwaitsGate p g) →
       ∃ u, exec (.gatePassed t) s = .next u ∧
         PollsMoved
           (raise .stray [.u1 n, .u1 (if g = .first then 3 else 4), .term (some t)]
             (writeEntry .stray (some t) ((s.lane n).passage.map (fun p => p.card)) none [.lane n] s)) u)) ∧
  (∀ (t : TermId) (n : Nat) (p : Passage) (c : Card) (s : State), GateOnline s t n .first →
     (s.lane n).passage = some p → AwaitsGate p .first → (s.lane n).chain = .double → s.card? p.card = some c →
     c.kind ≠ .master →
     (let second := fun (placed : Bool) =>
       s.setLane n
         { s.lane n with passage := some { p with state := .secondSending, expiry := none, releasePlaced := placed } }
     (∀ h, (s.lane n).second = some h → TermInRange h → (s.term h).online = .online →
       ((s.term h).outstanding = none →
         ∃ u, exec (.gatePassed t) s = .next u ∧
           PollsMoved ((second true).setTerm h (commanded (s.term h) .release)) u) ∧
       ((s.term h).outstanding.isSome →
         ∃ u, exec (.gatePassed t) s = .next u ∧ PollsMoved (second false) u)) ∧
     (GateMissing s (s.lane n).second →
       ∃ u, exec (.gatePassed t) s = .next u ∧
         PollsMoved (passageUncertain n p c s) u)))

/-- A debounced change of a stop input: the notice names the linked lanes, the entry the new level, and an assertion
cancels the waiting passages of those lanes; the level it has already changes nothing (R65 to R67). That the lanes go in
rising order, and their notices with them, is the model's choice (log 15). -/
def Obligations.StopInputCancelsWaiting : Prop :=
  ∀ (input : StopInput) (asserted : Bool) (s : State), s.powered = true →
    (let pinned :=
      { s with pins := if input = .stopA then { s.pins with stopA := asserted } else { s.pins with stopB := asserted } }
    exec (.stopInputChange input asserted) s = .next
      (if (debouncer input s).asserted = asserted then pinned else stopChangedTo input asserted pinned))

/-! ## Bars -/

namespace Sys2Proof.Claims

/-- The terminal is an ONLINE bar terminal with its slot. -/
def BarOnline (s : State) (t : TermId) (y : Slot) : Prop :=
  s.powered = true ∧ TermInRange t ∧ (s.term t).online = .online ∧ (∃ o, (s.term t).binding = .bar o) ∧
    s.slot? t = some y

/-- Checks 5 to 10 of R116, each with the earlier ones passed. -/
def LinesRefused (s : State) (c : Card) (lines : List OrderLine) (code : Code) : Prop :=
  let busy := c.quote.isSome ∨ c.passage.isSome
  let form := lines.length < 1 ∨ 12 < lines.length ∨ ∃ k ∈ lines, k.qty < 1 ∨ 99 < k.qty
  let item := ∃ k ∈ lines, 1024 ≤ k.item ∨ s.item? k.item = none ∨ ∃ i, s.item? k.item = some i ∧ i.active = false
  let age := c.adult = false ∧ ∃ k ∈ lines, ∃ i, s.item? k.item = some i ∧ i.adultOnly = true
  let account := s.account? c.account = none
  (busy ∧ code = .busy) ∨ (¬ busy ∧ form ∧ code = .format) ∨ (¬ busy ∧ ¬ form ∧ item ∧ code = .item) ∨
    (¬ busy ∧ ¬ form ∧ ¬ item ∧ age ∧ code = .age) ∨ (¬ busy ∧ ¬ form ∧ ¬ item ∧ ¬ age ∧ account ∧ code = .noAccount) ∨
    (¬ busy ∧ ¬ form ∧ ¬ item ∧ ¬ age ∧ ¬ account ∧ s.startup.loss.b = true ∧ code = .store)

/-- The figures of a purchase, by PriceFollowsTariff: the terms are the outlet's rate and honouring, the card's package and
per-drink cap and the account's discount, the drinks that remain are the daily cap less those used and held, and the lines
go with their items (R121 to R124). -/
def quotedPrice (s : State) (c : Card) (a : Account) (o : Outlet) (lines : List OrderLine) : Priced :=
  price { honoured := o.honoured, package := c.package, drinkCap := c.drinkCap, discount := a.discount, rate := o.rate }
    (c.dailyCap - (c.drinksUsed + c.drinksHeld)) (lines.filterMap (fun l => (s.item? l.item).map (fun i => (l, i))))

/-- Checks 12 to 15 of R116, each with the earlier ones passed (R120). -/
def TotalRefused (s : State) (o : Outlet) (a : Account) (total : Nat) (code : Code) : Prop :=
  let ceiling := o.ceiling < total
  let credit := (a.limit : Int) < a.balance + a.pending + a.held + total
  let allowance := a.allowance < a.pending + a.held + total
  (ceiling ∧ code = .ceiling) ∨ (¬ ceiling ∧ credit ∧ code = .credit) ∨
    (¬ ceiling ∧ ¬ credit ∧ allowance ∧ code = .allowance) ∨
    (¬ ceiling ∧ ¬ credit ∧ ¬ allowance ∧ 256 ≤ s.posting.committed.length + s.posting.reserved ∧ code = .full)

end Sys2Proof.Claims

/-- A refused purchase is shown where the terminal is free and the slot empty and changes nothing else, but that a GUEST
card ASHORE is marked, shown or not; at a slot that holds a quote every purchase is refused BUSY and not shown; the lookup's
notice is raised in each case (R115 to R120, R10). -/
def Obligations.PurchaseRefusedInOrder : Prop :=
  ∀ (t : TermId) (y : Slot) (x : Serial) (lines : List OrderLine) (s : State), BarOnline s t y →
    (let shown := fun (code : Code) (w : State) =>
      if (s.term t).outstanding = none ∧ y.waiting = none ∧ y.quote = none then
        w.setTerm t (commanded (s.term t) (.show code))
      else w
    let Gives := fun (w : State) => ∃ u, exec (.barPurchase t x lines) s = .next u ∧ PollsMoved w u
    (∀ code record, LookupRefuses s x code record →
      (y.quote.isSome → Gives (lookupSeen t x code record s)) ∧
      (y.quote = none → Gives (shown code (lookupSeen t x code record s)))) ∧
    (∀ n c, PresentsActive s x n c →
      (y.quote.isSome → Gives s) ∧
      (y.quote = none →
        (c.kind ≠ .guest → Gives (shown .notPermitted s)) ∧
        (c.kind = .guest → c.presence = .ashore →
          Gives (conflictSetTo n c .ashoreUse [.term (some t), .code none] (shown .ashore s))) ∧
        (c.kind = .guest → c.presence = .aboard →
          (∀ code, LinesRefused s c lines code → Gives (shown code s)) ∧
          ((∀ code, ¬ LinesRefused s c lines code) → ∀ a code, s.account? c.account = some a →
            TotalRefused s (s.outlet y.outlet) a (quotedPrice s c a (s.outlet y.outlet) lines).total code →
            Gives (shown code s))))))

/-- A purchase that passes every check creates a quote: slot, held sum with its warning, drinks held, reserved place and
the card's quote field, and QUOTE is delivered; its figures are those of the account's discount, the outlet's rate and
honouring and the card's package, caps and remaining drinks; a line in SLOW returns to RUNNING (R116, R121 to R124, R126,
R127, R114, R168). -/
def Obligations.PurchaseOpensQuote : Prop :=
  ∀ (t : TermId) (y : Slot) (x : Serial) (n : Nat) (c : Card) (a : Account) (lines : List OrderLine) (s : State),
    BarOnline s t y → y.quote = none → PresentsActive s x n c → c.kind = .guest → c.presence = .aboard →
    (∀ code, ¬ LinesRefused s c lines code) → s.account? c.account = some a →
    (let o := s.outlet y.outlet
    let p := quotedPrice s c a o lines
    let q : Quote :=
      { card := n, account := c.account, outlet := y.outlet, lines := p.lines, subtotal := p.subtotal
        service := p.service, total := p.total, drinks := p.drinks, expiry := s.now + 1000 * o.timeout, shown := false }
    let w := accountWritten c.account { a with held := a.held + p.total } 1 (s.setSlot t { y with quote := some q })
    (∀ code, ¬ TotalRefused s o a p.total code) →
    ∃ u, exec (.barPurchase t x lines) s = .next u ∧
      ((s.line t.line).state = .slow → (u.line t.line).state = .running) ∧
      PollsMoved (delivered t (.quote p.total p.service p.drinks) { w with
        register :=
          { w.register with
            cards := w.register.cards.insert n { c with drinksHeld := c.drinksHeld + p.drinks, quote := some t } }
        posting := { w.posting with reserved := w.posting.reserved + 1 } }) u)

/-- Pricing: covered units by package and drinks left, line nets after the discount rounded half up, the service charge
on the subtotal, the drinks to hold within those that remained (R109, R121 to R124). -/
def Obligations.PriceFollowsTariff : Prop :=
  ∀ (k : Terms) (remaining : Nat) (ls : List (OrderLine × Item)),
    (let r := price k remaining ls
    let counts := fun (i : Item) => i.category = .beerWine ∨ i.category = .spirit ∨ i.category = .premium
    let covers := fun (i : Item) =>
      (i.category = .soft ∧ k.package ≠ .noPackage) ∨
        ((i.category = .beerWine ∨ i.category = .spirit) ∧ (k.package = .standard ∨ k.package = .premium)) ∨
        (i.category = .premium ∧ k.package = .premium)
    let drinks := fun (j : Nat) =>
      (((ls.zip r.lines).take j).map (fun z => if counts z.1.2 then z.2.covered else 0)).sum
    r.lines.length = ls.length ∧ r.subtotal = (r.lines.map (fun q => q.net)).sum ∧
      r.service = (r.subtotal * k.rate + 5000) / 10000 ∧ r.total = r.subtotal + r.service ∧
      r.drinks = drinks ls.length ∧ r.drinks ≤ remaining ∧
      (∀ j l i q, ls[j]? = some (l, i) → r.lines[j]? = some q →
        q.item = l.item ∧ q.qty = l.qty ∧
        q.covered =
          (if k.honoured = true ∧ covers i then if counts i then min l.qty (remaining - drinks j) else l.qty else 0) ∧
        (let gross := q.covered * (i.price - k.drinkCap) + (l.qty - q.covered) * i.price
        q.net = gross - (gross * k.discount + 5000) / 10000)))

/-- KEY CONFIRM of a shown quote commits it: the charge record appended with the next sequence, held sum to pending, drinks
held to drinks used, and RESULT APPROVED; of a quote not shown it is discarded (R128, R133, R138, R139, R141, R146). -/
def Obligations.ConfirmCommitsQuote : Prop :=
  ∀ (t : TermId) (y : Slot) (q : Quote) (c : Card) (a : Account) (s : State), BarOnline s t y → y.quote = some q →
    s.card? q.card = some c → s.account? q.account = some a →
    (let last := s.posting.lastSeq
    let seq := if last = 0 ∨ last = 4294967295 then 1 else last + 1
    let charge : Charge :=
      { sequence := seq, account := q.account, card := q.card, outlet := q.outlet, terminal := t, time := s.clock
        lines := q.lines, subtotal := q.subtotal, service := q.service, total := q.total, drinks := q.drinks }
    let p : Posting :=
      { s.posting with
        committed := s.posting.committed ++ [charge], reserved := s.posting.reserved - 1, lastSeq := seq }
    let appended :=
      if p.high = false ∧ 192 ≤ p.committed.length then
        raise .backlogHigh
          [.u2 p.committed.length, .u2 p.reserved, .seq (p.committed.head?.map (fun z => z.sequence)), .seq (some seq)]
          { s with posting := { p with high := true } }
      else { s with posting := p }
    let w := accountWritten q.account { a with pending := a.pending + q.total, held := a.held - q.total } 2 appended
    (q.shown = true →
      ∃ u, exec (.barKeyConfirm t) s = .next u ∧
        PollsMoved (delivered t (.result (.approved q.total seq))
          (({ w with
            register :=
              { w.register with
                cards := w.register.cards.insert q.card
                  { c with
                    drinksUsed := c.drinksUsed + q.drinks, drinksHeld := c.drinksHeld - q.drinks, quote := none } } }).setSlot
            t { y with quote := none })) u) ∧
    (q.shown = false → ∃ u, exec (.barKeyConfirm t) s = .next u ∧ PollsMoved s u))

/-- KEY CANCEL and the expiry release the quote and deliver CANCELLED or EXPIRED, a KEY without a quote is answered
VOIDED, LATE; the acknowledgement of a QUOTE marks its quote shown, and that of a QUOTE, RESULT or SHOW lets a waiting
command be placed, which returns a line in SLOW to RUNNING (R114, R129, R130, R133, R159, R168). That the expiry's command
moves the time base to the expiry and does nothing without a quote, and that an earlier QUOTE's acknowledgement marks no
quote shown while a newer QUOTE waits, is the model's choice (logs 5 and 27). -/
def Obligations.BarKeysExpiryAndAcknowledgements : Prop :=
  (∀ (t : TermId) (y : Slot) (s : State), BarOnline s t y →
     (∀ q c a, y.quote = some q → s.card? q.card = some c → s.account? q.account = some a →
       (∃ u, exec (.barKeyCancel t) s = .next u ∧
         PollsMoved (delivered t (.result .cancelled) (quoteReleased t y q c a s)) u) ∧
       (∃ u, exec (.quoteExpiry t) s = .next u ∧
         PollsMoved (delivered t (.result .expired)
           (quoteReleased t y q c a { s with now := max s.now q.expiry })) u)) ∧
     (y.quote = none →
       exec (.quoteExpiry t) s = .next s ∧
       (∃ u, exec (.barKeyConfirm t) s = .next u ∧ PollsMoved (delivered t (.result (.voided .late)) s) u) ∧
       (∃ u, exec (.barKeyCancel t) s = .next u ∧ PollsMoved (delivered t (.result (.voided .late)) s) u))) ∧
  (∀ (t : TermId) (y : Slot) (s : State), BarOnline s t y →
     (let x := s.term t
     let freed := s.setTerm t { x with outstanding := none }
     let shown : Slot := { y with quote := y.quote.map (fun q => { q with shown := true }) }
     let Placed := fun (i : Instr) (c : Command) (z : Slot) =>
       ∃ u, exec i s = .next u ∧ ((s.line t.line).state = .slow → (u.line t.line).state = .running) ∧
         PollsMoved ((s.setTerm t (commanded x c)).setSlot t { z with waiting := none }) u
     (∀ total service drinks, x.outstanding = some (.quote total service drinks) →
       (y.waiting = none → exec (.quoteAck t) s = .next (freed.setSlot t shown)) ∧
       (∀ r, y.waiting = some (.result r) → Placed (.quoteAck t) (.result r) shown) ∧
       (∀ a b d, y.waiting = some (.quote a b d) → Placed (.quoteAck t) (.quote a b d) y)) ∧
     (∀ r, x.outstanding = some (.result r) →
       (y.waiting = none → exec (.resultAck t) s = .next (freed.setSlot t y)) ∧
       (∀ c, y.waiting = some c → Placed (.resultAck t) c y)) ∧
     (∀ k, x.outstanding = some (.show k) →
       (y.waiting = none → exec (.showAck t) s = .next (freed.setSlot t y)) ∧
       (∀ c, y.waiting = some c → Placed (.showAck t) c y))))

/-! ## What every step keeps -/

/-- Every step keeps the tables in canonical form, and queues, lists and counters within their bounds, the four counters of
each line and the 256 places of the posting queue among them, each open quote having its reserved place (R7, R137, R140,
R149, R173, R174, R178, R182, R190). -/
def Obligations.StepKeepsFormAndBounds : Prop :=
  ∀ s u : State, Canonical s → Bounded s → step s = .next u → Canonical u ∧ Bounded u

/-- Every step keeps the index in agreement with the records, and the withdrawn list apart from it (R6, R7). -/
def Obligations.StepKeepsIndex : Prop := ∀ s u : State, Indexed s → step s = .next u → Indexed u

namespace Sys2Proof.Claims

/-- The lanes are 1 to 8, and every passage in flight is of a counted card that names its lane (R49, R56, R69). -/
def PassagesHeld (s : State) : Prop :=
  (∀ p ∈ s.lanes, 1 ≤ p.1 ∧ p.1 ≤ 8) ∧
    ∀ n p, (s.lane n).passage = some p → ∃ c, s.card? p.card = some c ∧ c.kind ≠ .master ∧ c.passage = some n

/-- The left-behind list: in SAILING the counted records ASHORE, ascending, with no passage in flight; else empty (R41 to
R44). -/
def LeftBehindRight (s : State) : Prop :=
  s.register.cards.sorted ∧ (∀ p ∈ s.lanes, 1 ≤ p.1 ∧ p.1 ≤ 8) ∧
    (s.presence.call = .sailing →
      (∀ n, (s.lane n).passage = none) ∧
      s.presence.leftBehind =
        (s.register.cards.filter (fun p => p.2.kind ≠ .master ∧ p.2.presence = .ashore)).map (·.1)) ∧
    (s.presence.call ≠ .sailing → s.presence.leftBehind = [])

end Sys2Proof.Claims

/-- Every step keeps the aboard, ashore and conflict counts equal to the counted records', and each passage with its card
(R25, R56, R69). -/
def Obligations.StepKeepsTallies : Prop :=
  ∀ s u : State, Tallied s → PassagesHeld s → step s = .next u → Tallied u ∧ PassagesHeld u

/-- Every step keeps the left-behind list equal to the records ASHORE while SAILING, and empty otherwise (R44). -/
def Obligations.StepKeepsLeftBehind : Prop :=
  ∀ s u : State, LeftBehindRight s → step s = .next u → LeftBehindRight u

/-- The state after reset meets what every step keeps. -/
def Obligations.ResetMeetsInvariants : Prop :=
  Safe State.reset ∧ PassagesHeld State.reset ∧ LeftBehindRight State.reset
end

