-- ==== Sys2Proof/Laws/State.lean ====
section
/-! SUPPORT. The setters of State: each reads back its own field and leaves every other. -/

namespace Sys2Proof.Machine

@[simp] theorem State.withPending_pending (s : State) (v : List Instr) : (s.withPending v).pending = v := rfl
@[simp] theorem State.withPending_powered (s : State) (v : List Instr) : (s.withPending v).powered = s.powered := rfl
@[simp] theorem State.withPending_now (s : State) (v : List Instr) : (s.withPending v).now = s.now := rfl
@[simp] theorem State.withPending_pins (s : State) (v : List Instr) : (s.withPending v).pins = s.pins := rfl
@[simp] theorem State.withPending_choice (s : State) (v : List Instr) : (s.withPending v).choice = s.choice := rfl
@[simp] theorem State.withPending_register (s : State) (v : List Instr) : (s.withPending v).register = s.register := rfl
@[simp] theorem State.withPending_presence (s : State) (v : List Instr) : (s.withPending v).presence = s.presence := rfl
@[simp] theorem State.withPending_lanes (s : State) (v : List Instr) : (s.withPending v).lanes = s.lanes := rfl
@[simp] theorem State.withPending_stops (s : State) (v : List Instr) : (s.withPending v).stops = s.stops := rfl
@[simp] theorem State.withPending_doors (s : State) (v : List Instr) : (s.withPending v).doors = s.doors := rfl
@[simp] theorem State.withPending_store (s : State) (v : List Instr) : (s.withPending v).store = s.store := rfl
@[simp] theorem State.withPending_slots (s : State) (v : List Instr) : (s.withPending v).slots = s.slots := rfl
@[simp] theorem State.withPending_posting (s : State) (v : List Instr) : (s.withPending v).posting = s.posting := rfl
@[simp] theorem State.withPending_field (s : State) (v : List Instr) : (s.withPending v).field = s.field := rfl
@[simp] theorem State.withPending_link (s : State) (v : List Instr) : (s.withPending v).link = s.link := rfl
@[simp] theorem State.withPending_notices (s : State) (v : List Instr) : (s.withPending v).notices = s.notices := rfl
@[simp] theorem State.withPending_clock (s : State) (v : List Instr) : (s.withPending v).clock = s.clock := rfl
@[simp] theorem State.withPending_startup (s : State) (v : List Instr) : (s.withPending v).startup = s.startup := rfl
@[simp] theorem State.withPending_log (s : State) (v : List Instr) : (s.withPending v).log = s.log := rfl
@[simp] theorem State.withPending_self (s : State) : s.withPending s.pending = s := rfl

@[simp] theorem State.withPowered_pending (s : State) (v : Bool) : (s.withPowered v).pending = s.pending := rfl
@[simp] theorem State.withPowered_powered (s : State) (v : Bool) : (s.withPowered v).powered = v := rfl
@[simp] theorem State.withPowered_now (s : State) (v : Bool) : (s.withPowered v).now = s.now := rfl
@[simp] theorem State.withPowered_pins (s : State) (v : Bool) : (s.withPowered v).pins = s.pins := rfl
@[simp] theorem State.withPowered_choice (s : State) (v : Bool) : (s.withPowered v).choice = s.choice := rfl
@[simp] theorem State.withPowered_register (s : State) (v : Bool) : (s.withPowered v).register = s.register := rfl
@[simp] theorem State.withPowered_presence (s : State) (v : Bool) : (s.withPowered v).presence = s.presence := rfl
@[simp] theorem State.withPowered_lanes (s : State) (v : Bool) : (s.withPowered v).lanes = s.lanes := rfl
@[simp] theorem State.withPowered_stops (s : State) (v : Bool) : (s.withPowered v).stops = s.stops := rfl
@[simp] theorem State.withPowered_doors (s : State) (v : Bool) : (s.withPowered v).doors = s.doors := rfl
@[simp] theorem State.withPowered_store (s : State) (v : Bool) : (s.withPowered v).store = s.store := rfl
@[simp] theorem State.withPowered_slots (s : State) (v : Bool) : (s.withPowered v).slots = s.slots := rfl
@[simp] theorem State.withPowered_posting (s : State) (v : Bool) : (s.withPowered v).posting = s.posting := rfl
@[simp] theorem State.withPowered_field (s : State) (v : Bool) : (s.withPowered v).field = s.field := rfl
@[simp] theorem State.withPowered_link (s : State) (v : Bool) : (s.withPowered v).link = s.link := rfl
@[simp] theorem State.withPowered_notices (s : State) (v : Bool) : (s.withPowered v).notices = s.notices := rfl
@[simp] theorem State.withPowered_clock (s : State) (v : Bool) : (s.withPowered v).clock = s.clock := rfl
@[simp] theorem State.withPowered_startup (s : State) (v : Bool) : (s.withPowered v).startup = s.startup := rfl
@[simp] theorem State.withPowered_log (s : State) (v : Bool) : (s.withPowered v).log = s.log := rfl
@[simp] theorem State.withPowered_self (s : State) : s.withPowered s.powered = s := rfl

@[simp] theorem State.withNow_pending (s : State) (v : Nat) : (s.withNow v).pending = s.pending := rfl
@[simp] theorem State.withNow_powered (s : State) (v : Nat) : (s.withNow v).powered = s.powered := rfl
@[simp] theorem State.withNow_now (s : State) (v : Nat) : (s.withNow v).now = v := rfl
@[simp] theorem State.withNow_pins (s : State) (v : Nat) : (s.withNow v).pins = s.pins := rfl
@[simp] theorem State.withNow_choice (s : State) (v : Nat) : (s.withNow v).choice = s.choice := rfl
@[simp] theorem State.withNow_register (s : State) (v : Nat) : (s.withNow v).register = s.register := rfl
@[simp] theorem State.withNow_presence (s : State) (v : Nat) : (s.withNow v).presence = s.presence := rfl
@[simp] theorem State.withNow_lanes (s : State) (v : Nat) : (s.withNow v).lanes = s.lanes := rfl
@[simp] theorem State.withNow_stops (s : State) (v : Nat) : (s.withNow v).stops = s.stops := rfl
@[simp] theorem State.withNow_doors (s : State) (v : Nat) : (s.withNow v).doors = s.doors := rfl
@[simp] theorem State.withNow_store (s : State) (v : Nat) : (s.withNow v).store = s.store := rfl
@[simp] theorem State.withNow_slots (s : State) (v : Nat) : (s.withNow v).slots = s.slots := rfl
@[simp] theorem State.withNow_posting (s : State) (v : Nat) : (s.withNow v).posting = s.posting := rfl
@[simp] theorem State.withNow_field (s : State) (v : Nat) : (s.withNow v).field = s.field := rfl
@[simp] theorem State.withNow_link (s : State) (v : Nat) : (s.withNow v).link = s.link := rfl
@[simp] theorem State.withNow_notices (s : State) (v : Nat) : (s.withNow v).notices = s.notices := rfl
@[simp] theorem State.withNow_clock (s : State) (v : Nat) : (s.withNow v).clock = s.clock := rfl
@[simp] theorem State.withNow_startup (s : State) (v : Nat) : (s.withNow v).startup = s.startup := rfl
@[simp] theorem State.withNow_log (s : State) (v : Nat) : (s.withNow v).log = s.log := rfl
@[simp] theorem State.withNow_self (s : State) : s.withNow s.now = s := rfl

@[simp] theorem State.withPins_pending (s : State) (v : Pins) : (s.withPins v).pending = s.pending := rfl
@[simp] theorem State.withPins_powered (s : State) (v : Pins) : (s.withPins v).powered = s.powered := rfl
@[simp] theorem State.withPins_now (s : State) (v : Pins) : (s.withPins v).now = s.now := rfl
@[simp] theorem State.withPins_pins (s : State) (v : Pins) : (s.withPins v).pins = v := rfl
@[simp] theorem State.withPins_choice (s : State) (v : Pins) : (s.withPins v).choice = s.choice := rfl
@[simp] theorem State.withPins_register (s : State) (v : Pins) : (s.withPins v).register = s.register := rfl
@[simp] theorem State.withPins_presence (s : State) (v : Pins) : (s.withPins v).presence = s.presence := rfl
@[simp] theorem State.withPins_lanes (s : State) (v : Pins) : (s.withPins v).lanes = s.lanes := rfl
@[simp] theorem State.withPins_stops (s : State) (v : Pins) : (s.withPins v).stops = s.stops := rfl
@[simp] theorem State.withPins_doors (s : State) (v : Pins) : (s.withPins v).doors = s.doors := rfl
@[simp] theorem State.withPins_store (s : State) (v : Pins) : (s.withPins v).store = s.store := rfl
@[simp] theorem State.withPins_slots (s : State) (v : Pins) : (s.withPins v).slots = s.slots := rfl
@[simp] theorem State.withPins_posting (s : State) (v : Pins) : (s.withPins v).posting = s.posting := rfl
@[simp] theorem State.withPins_field (s : State) (v : Pins) : (s.withPins v).field = s.field := rfl
@[simp] theorem State.withPins_link (s : State) (v : Pins) : (s.withPins v).link = s.link := rfl
@[simp] theorem State.withPins_notices (s : State) (v : Pins) : (s.withPins v).notices = s.notices := rfl
@[simp] theorem State.withPins_clock (s : State) (v : Pins) : (s.withPins v).clock = s.clock := rfl
@[simp] theorem State.withPins_startup (s : State) (v : Pins) : (s.withPins v).startup = s.startup := rfl
@[simp] theorem State.withPins_log (s : State) (v : Pins) : (s.withPins v).log = s.log := rfl
@[simp] theorem State.withPins_self (s : State) : s.withPins s.pins = s := rfl

@[simp] theorem State.withChoice_pending (s : State) (v : Nat) : (s.withChoice v).pending = s.pending := rfl
@[simp] theorem State.withChoice_powered (s : State) (v : Nat) : (s.withChoice v).powered = s.powered := rfl
@[simp] theorem State.withChoice_now (s : State) (v : Nat) : (s.withChoice v).now = s.now := rfl
@[simp] theorem State.withChoice_pins (s : State) (v : Nat) : (s.withChoice v).pins = s.pins := rfl
@[simp] theorem State.withChoice_choice (s : State) (v : Nat) : (s.withChoice v).choice = v := rfl
@[simp] theorem State.withChoice_register (s : State) (v : Nat) : (s.withChoice v).register = s.register := rfl
@[simp] theorem State.withChoice_presence (s : State) (v : Nat) : (s.withChoice v).presence = s.presence := rfl
@[simp] theorem State.withChoice_lanes (s : State) (v : Nat) : (s.withChoice v).lanes = s.lanes := rfl
@[simp] theorem State.withChoice_stops (s : State) (v : Nat) : (s.withChoice v).stops = s.stops := rfl
@[simp] theorem State.withChoice_doors (s : State) (v : Nat) : (s.withChoice v).doors = s.doors := rfl
@[simp] theorem State.withChoice_store (s : State) (v : Nat) : (s.withChoice v).store = s.store := rfl
@[simp] theorem State.withChoice_slots (s : State) (v : Nat) : (s.withChoice v).slots = s.slots := rfl
@[simp] theorem State.withChoice_posting (s : State) (v : Nat) : (s.withChoice v).posting = s.posting := rfl
@[simp] theorem State.withChoice_field (s : State) (v : Nat) : (s.withChoice v).field = s.field := rfl
@[simp] theorem State.withChoice_link (s : State) (v : Nat) : (s.withChoice v).link = s.link := rfl
@[simp] theorem State.withChoice_notices (s : State) (v : Nat) : (s.withChoice v).notices = s.notices := rfl
@[simp] theorem State.withChoice_clock (s : State) (v : Nat) : (s.withChoice v).clock = s.clock := rfl
@[simp] theorem State.withChoice_startup (s : State) (v : Nat) : (s.withChoice v).startup = s.startup := rfl
@[simp] theorem State.withChoice_log (s : State) (v : Nat) : (s.withChoice v).log = s.log := rfl
@[simp] theorem State.withChoice_self (s : State) : s.withChoice s.choice = s := rfl

@[simp] theorem State.withRegister_pending (s : State) (v : Register) : (s.withRegister v).pending = s.pending := rfl
@[simp] theorem State.withRegister_powered (s : State) (v : Register) : (s.withRegister v).powered = s.powered := rfl
@[simp] theorem State.withRegister_now (s : State) (v : Register) : (s.withRegister v).now = s.now := rfl
@[simp] theorem State.withRegister_pins (s : State) (v : Register) : (s.withRegister v).pins = s.pins := rfl
@[simp] theorem State.withRegister_choice (s : State) (v : Register) : (s.withRegister v).choice = s.choice := rfl
@[simp] theorem State.withRegister_register (s : State) (v : Register) : (s.withRegister v).register = v := rfl
@[simp] theorem State.withRegister_presence (s : State) (v : Register) : (s.withRegister v).presence = s.presence := rfl
@[simp] theorem State.withRegister_lanes (s : State) (v : Register) : (s.withRegister v).lanes = s.lanes := rfl
@[simp] theorem State.withRegister_stops (s : State) (v : Register) : (s.withRegister v).stops = s.stops := rfl
@[simp] theorem State.withRegister_doors (s : State) (v : Register) : (s.withRegister v).doors = s.doors := rfl
@[simp] theorem State.withRegister_store (s : State) (v : Register) : (s.withRegister v).store = s.store := rfl
@[simp] theorem State.withRegister_slots (s : State) (v : Register) : (s.withRegister v).slots = s.slots := rfl
@[simp] theorem State.withRegister_posting (s : State) (v : Register) : (s.withRegister v).posting = s.posting := rfl
@[simp] theorem State.withRegister_field (s : State) (v : Register) : (s.withRegister v).field = s.field := rfl
@[simp] theorem State.withRegister_link (s : State) (v : Register) : (s.withRegister v).link = s.link := rfl
@[simp] theorem State.withRegister_notices (s : State) (v : Register) : (s.withRegister v).notices = s.notices := rfl
@[simp] theorem State.withRegister_clock (s : State) (v : Register) : (s.withRegister v).clock = s.clock := rfl
@[simp] theorem State.withRegister_startup (s : State) (v : Register) : (s.withRegister v).startup = s.startup := rfl
@[simp] theorem State.withRegister_log (s : State) (v : Register) : (s.withRegister v).log = s.log := rfl
@[simp] theorem State.withRegister_self (s : State) : s.withRegister s.register = s := rfl

@[simp] theorem State.withPresence_pending (s : State) (v : PresenceUnit) : (s.withPresence v).pending = s.pending := rfl
@[simp] theorem State.withPresence_powered (s : State) (v : PresenceUnit) : (s.withPresence v).powered = s.powered := rfl
@[simp] theorem State.withPresence_now (s : State) (v : PresenceUnit) : (s.withPresence v).now = s.now := rfl
@[simp] theorem State.withPresence_pins (s : State) (v : PresenceUnit) : (s.withPresence v).pins = s.pins := rfl
@[simp] theorem State.withPresence_choice (s : State) (v : PresenceUnit) : (s.withPresence v).choice = s.choice := rfl
@[simp] theorem State.withPresence_register (s : State) (v : PresenceUnit) : (s.withPresence v).register = s.register := rfl
@[simp] theorem State.withPresence_presence (s : State) (v : PresenceUnit) : (s.withPresence v).presence = v := rfl
@[simp] theorem State.withPresence_lanes (s : State) (v : PresenceUnit) : (s.withPresence v).lanes = s.lanes := rfl
@[simp] theorem State.withPresence_stops (s : State) (v : PresenceUnit) : (s.withPresence v).stops = s.stops := rfl
@[simp] theorem State.withPresence_doors (s : State) (v : PresenceUnit) : (s.withPresence v).doors = s.doors := rfl
@[simp] theorem State.withPresence_store (s : State) (v : PresenceUnit) : (s.withPresence v).store = s.store := rfl
@[simp] theorem State.withPresence_slots (s : State) (v : PresenceUnit) : (s.withPresence v).slots = s.slots := rfl
@[simp] theorem State.withPresence_posting (s : State) (v : PresenceUnit) : (s.withPresence v).posting = s.posting := rfl
@[simp] theorem State.withPresence_field (s : State) (v : PresenceUnit) : (s.withPresence v).field = s.field := rfl
@[simp] theorem State.withPresence_link (s : State) (v : PresenceUnit) : (s.withPresence v).link = s.link := rfl
@[simp] theorem State.withPresence_notices (s : State) (v : PresenceUnit) : (s.withPresence v).notices = s.notices := rfl
@[simp] theorem State.withPresence_clock (s : State) (v : PresenceUnit) : (s.withPresence v).clock = s.clock := rfl
@[simp] theorem State.withPresence_startup (s : State) (v : PresenceUnit) : (s.withPresence v).startup = s.startup := rfl
@[simp] theorem State.withPresence_log (s : State) (v : PresenceUnit) : (s.withPresence v).log = s.log := rfl
@[simp] theorem State.withPresence_self (s : State) : s.withPresence s.presence = s := rfl

@[simp] theorem State.withLanes_pending (s : State) (v : Table Lane) : (s.withLanes v).pending = s.pending := rfl
@[simp] theorem State.withLanes_powered (s : State) (v : Table Lane) : (s.withLanes v).powered = s.powered := rfl
@[simp] theorem State.withLanes_now (s : State) (v : Table Lane) : (s.withLanes v).now = s.now := rfl
@[simp] theorem State.withLanes_pins (s : State) (v : Table Lane) : (s.withLanes v).pins = s.pins := rfl
@[simp] theorem State.withLanes_choice (s : State) (v : Table Lane) : (s.withLanes v).choice = s.choice := rfl
@[simp] theorem State.withLanes_register (s : State) (v : Table Lane) : (s.withLanes v).register = s.register := rfl
@[simp] theorem State.withLanes_presence (s : State) (v : Table Lane) : (s.withLanes v).presence = s.presence := rfl
@[simp] theorem State.withLanes_lanes (s : State) (v : Table Lane) : (s.withLanes v).lanes = v := rfl
@[simp] theorem State.withLanes_stops (s : State) (v : Table Lane) : (s.withLanes v).stops = s.stops := rfl
@[simp] theorem State.withLanes_doors (s : State) (v : Table Lane) : (s.withLanes v).doors = s.doors := rfl
@[simp] theorem State.withLanes_store (s : State) (v : Table Lane) : (s.withLanes v).store = s.store := rfl
@[simp] theorem State.withLanes_slots (s : State) (v : Table Lane) : (s.withLanes v).slots = s.slots := rfl
@[simp] theorem State.withLanes_posting (s : State) (v : Table Lane) : (s.withLanes v).posting = s.posting := rfl
@[simp] theorem State.withLanes_field (s : State) (v : Table Lane) : (s.withLanes v).field = s.field := rfl
@[simp] theorem State.withLanes_link (s : State) (v : Table Lane) : (s.withLanes v).link = s.link := rfl
@[simp] theorem State.withLanes_notices (s : State) (v : Table Lane) : (s.withLanes v).notices = s.notices := rfl
@[simp] theorem State.withLanes_clock (s : State) (v : Table Lane) : (s.withLanes v).clock = s.clock := rfl
@[simp] theorem State.withLanes_startup (s : State) (v : Table Lane) : (s.withLanes v).startup = s.startup := rfl
@[simp] theorem State.withLanes_log (s : State) (v : Table Lane) : (s.withLanes v).log = s.log := rfl
@[simp] theorem State.withLanes_self (s : State) : s.withLanes s.lanes = s := rfl

@[simp] theorem State.withStops_pending (s : State) (v : Stops) : (s.withStops v).pending = s.pending := rfl
@[simp] theorem State.withStops_powered (s : State) (v : Stops) : (s.withStops v).powered = s.powered := rfl
@[simp] theorem State.withStops_now (s : State) (v : Stops) : (s.withStops v).now = s.now := rfl
@[simp] theorem State.withStops_pins (s : State) (v : Stops) : (s.withStops v).pins = s.pins := rfl
@[simp] theorem State.withStops_choice (s : State) (v : Stops) : (s.withStops v).choice = s.choice := rfl
@[simp] theorem State.withStops_register (s : State) (v : Stops) : (s.withStops v).register = s.register := rfl
@[simp] theorem State.withStops_presence (s : State) (v : Stops) : (s.withStops v).presence = s.presence := rfl
@[simp] theorem State.withStops_lanes (s : State) (v : Stops) : (s.withStops v).lanes = s.lanes := rfl
@[simp] theorem State.withStops_stops (s : State) (v : Stops) : (s.withStops v).stops = v := rfl
@[simp] theorem State.withStops_doors (s : State) (v : Stops) : (s.withStops v).doors = s.doors := rfl
@[simp] theorem State.withStops_store (s : State) (v : Stops) : (s.withStops v).store = s.store := rfl
@[simp] theorem State.withStops_slots (s : State) (v : Stops) : (s.withStops v).slots = s.slots := rfl
@[simp] theorem State.withStops_posting (s : State) (v : Stops) : (s.withStops v).posting = s.posting := rfl
@[simp] theorem State.withStops_field (s : State) (v : Stops) : (s.withStops v).field = s.field := rfl
@[simp] theorem State.withStops_link (s : State) (v : Stops) : (s.withStops v).link = s.link := rfl
@[simp] theorem State.withStops_notices (s : State) (v : Stops) : (s.withStops v).notices = s.notices := rfl
@[simp] theorem State.withStops_clock (s : State) (v : Stops) : (s.withStops v).clock = s.clock := rfl
@[simp] theorem State.withStops_startup (s : State) (v : Stops) : (s.withStops v).startup = s.startup := rfl
@[simp] theorem State.withStops_log (s : State) (v : Stops) : (s.withStops v).log = s.log := rfl
@[simp] theorem State.withStops_self (s : State) : s.withStops s.stops = s := rfl

@[simp] theorem State.withDoors_pending (s : State) (v : DoorUnit) : (s.withDoors v).pending = s.pending := rfl
@[simp] theorem State.withDoors_powered (s : State) (v : DoorUnit) : (s.withDoors v).powered = s.powered := rfl
@[simp] theorem State.withDoors_now (s : State) (v : DoorUnit) : (s.withDoors v).now = s.now := rfl
@[simp] theorem State.withDoors_pins (s : State) (v : DoorUnit) : (s.withDoors v).pins = s.pins := rfl
@[simp] theorem State.withDoors_choice (s : State) (v : DoorUnit) : (s.withDoors v).choice = s.choice := rfl
@[simp] theorem State.withDoors_register (s : State) (v : DoorUnit) : (s.withDoors v).register = s.register := rfl
@[simp] theorem State.withDoors_presence (s : State) (v : DoorUnit) : (s.withDoors v).presence = s.presence := rfl
@[simp] theorem State.withDoors_lanes (s : State) (v : DoorUnit) : (s.withDoors v).lanes = s.lanes := rfl
@[simp] theorem State.withDoors_stops (s : State) (v : DoorUnit) : (s.withDoors v).stops = s.stops := rfl
@[simp] theorem State.withDoors_doors (s : State) (v : DoorUnit) : (s.withDoors v).doors = v := rfl
@[simp] theorem State.withDoors_store (s : State) (v : DoorUnit) : (s.withDoors v).store = s.store := rfl
@[simp] theorem State.withDoors_slots (s : State) (v : DoorUnit) : (s.withDoors v).slots = s.slots := rfl
@[simp] theorem State.withDoors_posting (s : State) (v : DoorUnit) : (s.withDoors v).posting = s.posting := rfl
@[simp] theorem State.withDoors_field (s : State) (v : DoorUnit) : (s.withDoors v).field = s.field := rfl
@[simp] theorem State.withDoors_link (s : State) (v : DoorUnit) : (s.withDoors v).link = s.link := rfl
@[simp] theorem State.withDoors_notices (s : State) (v : DoorUnit) : (s.withDoors v).notices = s.notices := rfl
@[simp] theorem State.withDoors_clock (s : State) (v : DoorUnit) : (s.withDoors v).clock = s.clock := rfl
@[simp] theorem State.withDoors_startup (s : State) (v : DoorUnit) : (s.withDoors v).startup = s.startup := rfl
@[simp] theorem State.withDoors_log (s : State) (v : DoorUnit) : (s.withDoors v).log = s.log := rfl
@[simp] theorem State.withDoors_self (s : State) : s.withDoors s.doors = s := rfl

@[simp] theorem State.withStore_pending (s : State) (v : Tariff) : (s.withStore v).pending = s.pending := rfl
@[simp] theorem State.withStore_powered (s : State) (v : Tariff) : (s.withStore v).powered = s.powered := rfl
@[simp] theorem State.withStore_now (s : State) (v : Tariff) : (s.withStore v).now = s.now := rfl
@[simp] theorem State.withStore_pins (s : State) (v : Tariff) : (s.withStore v).pins = s.pins := rfl
@[simp] theorem State.withStore_choice (s : State) (v : Tariff) : (s.withStore v).choice = s.choice := rfl
@[simp] theorem State.withStore_register (s : State) (v : Tariff) : (s.withStore v).register = s.register := rfl
@[simp] theorem State.withStore_presence (s : State) (v : Tariff) : (s.withStore v).presence = s.presence := rfl
@[simp] theorem State.withStore_lanes (s : State) (v : Tariff) : (s.withStore v).lanes = s.lanes := rfl
@[simp] theorem State.withStore_stops (s : State) (v : Tariff) : (s.withStore v).stops = s.stops := rfl
@[simp] theorem State.withStore_doors (s : State) (v : Tariff) : (s.withStore v).doors = s.doors := rfl
@[simp] theorem State.withStore_store (s : State) (v : Tariff) : (s.withStore v).store = v := rfl
@[simp] theorem State.withStore_slots (s : State) (v : Tariff) : (s.withStore v).slots = s.slots := rfl
@[simp] theorem State.withStore_posting (s : State) (v : Tariff) : (s.withStore v).posting = s.posting := rfl
@[simp] theorem State.withStore_field (s : State) (v : Tariff) : (s.withStore v).field = s.field := rfl
@[simp] theorem State.withStore_link (s : State) (v : Tariff) : (s.withStore v).link = s.link := rfl
@[simp] theorem State.withStore_notices (s : State) (v : Tariff) : (s.withStore v).notices = s.notices := rfl
@[simp] theorem State.withStore_clock (s : State) (v : Tariff) : (s.withStore v).clock = s.clock := rfl
@[simp] theorem State.withStore_startup (s : State) (v : Tariff) : (s.withStore v).startup = s.startup := rfl
@[simp] theorem State.withStore_log (s : State) (v : Tariff) : (s.withStore v).log = s.log := rfl
@[simp] theorem State.withStore_self (s : State) : s.withStore s.store = s := rfl

@[simp] theorem State.withSlots_pending (s : State) (v : Table Slot) : (s.withSlots v).pending = s.pending := rfl
@[simp] theorem State.withSlots_powered (s : State) (v : Table Slot) : (s.withSlots v).powered = s.powered := rfl
@[simp] theorem State.withSlots_now (s : State) (v : Table Slot) : (s.withSlots v).now = s.now := rfl
@[simp] theorem State.withSlots_pins (s : State) (v : Table Slot) : (s.withSlots v).pins = s.pins := rfl
@[simp] theorem State.withSlots_choice (s : State) (v : Table Slot) : (s.withSlots v).choice = s.choice := rfl
@[simp] theorem State.withSlots_register (s : State) (v : Table Slot) : (s.withSlots v).register = s.register := rfl
@[simp] theorem State.withSlots_presence (s : State) (v : Table Slot) : (s.withSlots v).presence = s.presence := rfl
@[simp] theorem State.withSlots_lanes (s : State) (v : Table Slot) : (s.withSlots v).lanes = s.lanes := rfl
@[simp] theorem State.withSlots_stops (s : State) (v : Table Slot) : (s.withSlots v).stops = s.stops := rfl
@[simp] theorem State.withSlots_doors (s : State) (v : Table Slot) : (s.withSlots v).doors = s.doors := rfl
@[simp] theorem State.withSlots_store (s : State) (v : Table Slot) : (s.withSlots v).store = s.store := rfl
@[simp] theorem State.withSlots_slots (s : State) (v : Table Slot) : (s.withSlots v).slots = v := rfl
@[simp] theorem State.withSlots_posting (s : State) (v : Table Slot) : (s.withSlots v).posting = s.posting := rfl
@[simp] theorem State.withSlots_field (s : State) (v : Table Slot) : (s.withSlots v).field = s.field := rfl
@[simp] theorem State.withSlots_link (s : State) (v : Table Slot) : (s.withSlots v).link = s.link := rfl
@[simp] theorem State.withSlots_notices (s : State) (v : Table Slot) : (s.withSlots v).notices = s.notices := rfl
@[simp] theorem State.withSlots_clock (s : State) (v : Table Slot) : (s.withSlots v).clock = s.clock := rfl
@[simp] theorem State.withSlots_startup (s : State) (v : Table Slot) : (s.withSlots v).startup = s.startup := rfl
@[simp] theorem State.withSlots_log (s : State) (v : Table Slot) : (s.withSlots v).log = s.log := rfl
@[simp] theorem State.withSlots_self (s : State) : s.withSlots s.slots = s := rfl

@[simp] theorem State.withPosting_pending (s : State) (v : Posting) : (s.withPosting v).pending = s.pending := rfl
@[simp] theorem State.withPosting_powered (s : State) (v : Posting) : (s.withPosting v).powered = s.powered := rfl
@[simp] theorem State.withPosting_now (s : State) (v : Posting) : (s.withPosting v).now = s.now := rfl
@[simp] theorem State.withPosting_pins (s : State) (v : Posting) : (s.withPosting v).pins = s.pins := rfl
@[simp] theorem State.withPosting_choice (s : State) (v : Posting) : (s.withPosting v).choice = s.choice := rfl
@[simp] theorem State.withPosting_register (s : State) (v : Posting) : (s.withPosting v).register = s.register := rfl
@[simp] theorem State.withPosting_presence (s : State) (v : Posting) : (s.withPosting v).presence = s.presence := rfl
@[simp] theorem State.withPosting_lanes (s : State) (v : Posting) : (s.withPosting v).lanes = s.lanes := rfl
@[simp] theorem State.withPosting_stops (s : State) (v : Posting) : (s.withPosting v).stops = s.stops := rfl
@[simp] theorem State.withPosting_doors (s : State) (v : Posting) : (s.withPosting v).doors = s.doors := rfl
@[simp] theorem State.withPosting_store (s : State) (v : Posting) : (s.withPosting v).store = s.store := rfl
@[simp] theorem State.withPosting_slots (s : State) (v : Posting) : (s.withPosting v).slots = s.slots := rfl
@[simp] theorem State.withPosting_posting (s : State) (v : Posting) : (s.withPosting v).posting = v := rfl
@[simp] theorem State.withPosting_field (s : State) (v : Posting) : (s.withPosting v).field = s.field := rfl
@[simp] theorem State.withPosting_link (s : State) (v : Posting) : (s.withPosting v).link = s.link := rfl
@[simp] theorem State.withPosting_notices (s : State) (v : Posting) : (s.withPosting v).notices = s.notices := rfl
@[simp] theorem State.withPosting_clock (s : State) (v : Posting) : (s.withPosting v).clock = s.clock := rfl
@[simp] theorem State.withPosting_startup (s : State) (v : Posting) : (s.withPosting v).startup = s.startup := rfl
@[simp] theorem State.withPosting_log (s : State) (v : Posting) : (s.withPosting v).log = s.log := rfl
@[simp] theorem State.withPosting_self (s : State) : s.withPosting s.posting = s := rfl

@[simp] theorem State.withField_pending (s : State) (v : FieldUnit) : (s.withField v).pending = s.pending := rfl
@[simp] theorem State.withField_powered (s : State) (v : FieldUnit) : (s.withField v).powered = s.powered := rfl
@[simp] theorem State.withField_now (s : State) (v : FieldUnit) : (s.withField v).now = s.now := rfl
@[simp] theorem State.withField_pins (s : State) (v : FieldUnit) : (s.withField v).pins = s.pins := rfl
@[simp] theorem State.withField_choice (s : State) (v : FieldUnit) : (s.withField v).choice = s.choice := rfl
@[simp] theorem State.withField_register (s : State) (v : FieldUnit) : (s.withField v).register = s.register := rfl
@[simp] theorem State.withField_presence (s : State) (v : FieldUnit) : (s.withField v).presence = s.presence := rfl
@[simp] theorem State.withField_lanes (s : State) (v : FieldUnit) : (s.withField v).lanes = s.lanes := rfl
@[simp] theorem State.withField_stops (s : State) (v : FieldUnit) : (s.withField v).stops = s.stops := rfl
@[simp] theorem State.withField_doors (s : State) (v : FieldUnit) : (s.withField v).doors = s.doors := rfl
@[simp] theorem State.withField_store (s : State) (v : FieldUnit) : (s.withField v).store = s.store := rfl
@[simp] theorem State.withField_slots (s : State) (v : FieldUnit) : (s.withField v).slots = s.slots := rfl
@[simp] theorem State.withField_posting (s : State) (v : FieldUnit) : (s.withField v).posting = s.posting := rfl
@[simp] theorem State.withField_field (s : State) (v : FieldUnit) : (s.withField v).field = v := rfl
@[simp] theorem State.withField_link (s : State) (v : FieldUnit) : (s.withField v).link = s.link := rfl
@[simp] theorem State.withField_notices (s : State) (v : FieldUnit) : (s.withField v).notices = s.notices := rfl
@[simp] theorem State.withField_clock (s : State) (v : FieldUnit) : (s.withField v).clock = s.clock := rfl
@[simp] theorem State.withField_startup (s : State) (v : FieldUnit) : (s.withField v).startup = s.startup := rfl
@[simp] theorem State.withField_log (s : State) (v : FieldUnit) : (s.withField v).log = s.log := rfl
@[simp] theorem State.withField_self (s : State) : s.withField s.field = s := rfl

@[simp] theorem State.withLink_pending (s : State) (v : Link) : (s.withLink v).pending = s.pending := rfl
@[simp] theorem State.withLink_powered (s : State) (v : Link) : (s.withLink v).powered = s.powered := rfl
@[simp] theorem State.withLink_now (s : State) (v : Link) : (s.withLink v).now = s.now := rfl
@[simp] theorem State.withLink_pins (s : State) (v : Link) : (s.withLink v).pins = s.pins := rfl
@[simp] theorem State.withLink_choice (s : State) (v : Link) : (s.withLink v).choice = s.choice := rfl
@[simp] theorem State.withLink_register (s : State) (v : Link) : (s.withLink v).register = s.register := rfl
@[simp] theorem State.withLink_presence (s : State) (v : Link) : (s.withLink v).presence = s.presence := rfl
@[simp] theorem State.withLink_lanes (s : State) (v : Link) : (s.withLink v).lanes = s.lanes := rfl
@[simp] theorem State.withLink_stops (s : State) (v : Link) : (s.withLink v).stops = s.stops := rfl
@[simp] theorem State.withLink_doors (s : State) (v : Link) : (s.withLink v).doors = s.doors := rfl
@[simp] theorem State.withLink_store (s : State) (v : Link) : (s.withLink v).store = s.store := rfl
@[simp] theorem State.withLink_slots (s : State) (v : Link) : (s.withLink v).slots = s.slots := rfl
@[simp] theorem State.withLink_posting (s : State) (v : Link) : (s.withLink v).posting = s.posting := rfl
@[simp] theorem State.withLink_field (s : State) (v : Link) : (s.withLink v).field = s.field := rfl
@[simp] theorem State.withLink_link (s : State) (v : Link) : (s.withLink v).link = v := rfl
@[simp] theorem State.withLink_notices (s : State) (v : Link) : (s.withLink v).notices = s.notices := rfl
@[simp] theorem State.withLink_clock (s : State) (v : Link) : (s.withLink v).clock = s.clock := rfl
@[simp] theorem State.withLink_startup (s : State) (v : Link) : (s.withLink v).startup = s.startup := rfl
@[simp] theorem State.withLink_log (s : State) (v : Link) : (s.withLink v).log = s.log := rfl
@[simp] theorem State.withLink_self (s : State) : s.withLink s.link = s := rfl

@[simp] theorem State.withNotices_pending (s : State) (v : Notices) : (s.withNotices v).pending = s.pending := rfl
@[simp] theorem State.withNotices_powered (s : State) (v : Notices) : (s.withNotices v).powered = s.powered := rfl
@[simp] theorem State.withNotices_now (s : State) (v : Notices) : (s.withNotices v).now = s.now := rfl
@[simp] theorem State.withNotices_pins (s : State) (v : Notices) : (s.withNotices v).pins = s.pins := rfl
@[simp] theorem State.withNotices_choice (s : State) (v : Notices) : (s.withNotices v).choice = s.choice := rfl
@[simp] theorem State.withNotices_register (s : State) (v : Notices) : (s.withNotices v).register = s.register := rfl
@[simp] theorem State.withNotices_presence (s : State) (v : Notices) : (s.withNotices v).presence = s.presence := rfl
@[simp] theorem State.withNotices_lanes (s : State) (v : Notices) : (s.withNotices v).lanes = s.lanes := rfl
@[simp] theorem State.withNotices_stops (s : State) (v : Notices) : (s.withNotices v).stops = s.stops := rfl
@[simp] theorem State.withNotices_doors (s : State) (v : Notices) : (s.withNotices v).doors = s.doors := rfl
@[simp] theorem State.withNotices_store (s : State) (v : Notices) : (s.withNotices v).store = s.store := rfl
@[simp] theorem State.withNotices_slots (s : State) (v : Notices) : (s.withNotices v).slots = s.slots := rfl
@[simp] theorem State.withNotices_posting (s : State) (v : Notices) : (s.withNotices v).posting = s.posting := rfl
@[simp] theorem State.withNotices_field (s : State) (v : Notices) : (s.withNotices v).field = s.field := rfl
@[simp] theorem State.withNotices_link (s : State) (v : Notices) : (s.withNotices v).link = s.link := rfl
@[simp] theorem State.withNotices_notices (s : State) (v : Notices) : (s.withNotices v).notices = v := rfl
@[simp] theorem State.withNotices_clock (s : State) (v : Notices) : (s.withNotices v).clock = s.clock := rfl
@[simp] theorem State.withNotices_startup (s : State) (v : Notices) : (s.withNotices v).startup = s.startup := rfl
@[simp] theorem State.withNotices_log (s : State) (v : Notices) : (s.withNotices v).log = s.log := rfl
@[simp] theorem State.withNotices_self (s : State) : s.withNotices s.notices = s := rfl

@[simp] theorem State.withClock_pending (s : State) (v : Option ShipTime) : (s.withClock v).pending = s.pending := rfl
@[simp] theorem State.withClock_powered (s : State) (v : Option ShipTime) : (s.withClock v).powered = s.powered := rfl
@[simp] theorem State.withClock_now (s : State) (v : Option ShipTime) : (s.withClock v).now = s.now := rfl
@[simp] theorem State.withClock_pins (s : State) (v : Option ShipTime) : (s.withClock v).pins = s.pins := rfl
@[simp] theorem State.withClock_choice (s : State) (v : Option ShipTime) : (s.withClock v).choice = s.choice := rfl
@[simp] theorem State.withClock_register (s : State) (v : Option ShipTime) : (s.withClock v).register = s.register := rfl
@[simp] theorem State.withClock_presence (s : State) (v : Option ShipTime) : (s.withClock v).presence = s.presence := rfl
@[simp] theorem State.withClock_lanes (s : State) (v : Option ShipTime) : (s.withClock v).lanes = s.lanes := rfl
@[simp] theorem State.withClock_stops (s : State) (v : Option ShipTime) : (s.withClock v).stops = s.stops := rfl
@[simp] theorem State.withClock_doors (s : State) (v : Option ShipTime) : (s.withClock v).doors = s.doors := rfl
@[simp] theorem State.withClock_store (s : State) (v : Option ShipTime) : (s.withClock v).store = s.store := rfl
@[simp] theorem State.withClock_slots (s : State) (v : Option ShipTime) : (s.withClock v).slots = s.slots := rfl
@[simp] theorem State.withClock_posting (s : State) (v : Option ShipTime) : (s.withClock v).posting = s.posting := rfl
@[simp] theorem State.withClock_field (s : State) (v : Option ShipTime) : (s.withClock v).field = s.field := rfl
@[simp] theorem State.withClock_link (s : State) (v : Option ShipTime) : (s.withClock v).link = s.link := rfl
@[simp] theorem State.withClock_notices (s : State) (v : Option ShipTime) : (s.withClock v).notices = s.notices := rfl
@[simp] theorem State.withClock_clock (s : State) (v : Option ShipTime) : (s.withClock v).clock = v := rfl
@[simp] theorem State.withClock_startup (s : State) (v : Option ShipTime) : (s.withClock v).startup = s.startup := rfl
@[simp] theorem State.withClock_log (s : State) (v : Option ShipTime) : (s.withClock v).log = s.log := rfl
@[simp] theorem State.withClock_self (s : State) : s.withClock s.clock = s := rfl

@[simp] theorem State.withStartup_pending (s : State) (v : Startup) : (s.withStartup v).pending = s.pending := rfl
@[simp] theorem State.withStartup_powered (s : State) (v : Startup) : (s.withStartup v).powered = s.powered := rfl
@[simp] theorem State.withStartup_now (s : State) (v : Startup) : (s.withStartup v).now = s.now := rfl
@[simp] theorem State.withStartup_pins (s : State) (v : Startup) : (s.withStartup v).pins = s.pins := rfl
@[simp] theorem State.withStartup_choice (s : State) (v : Startup) : (s.withStartup v).choice = s.choice := rfl
@[simp] theorem State.withStartup_register (s : State) (v : Startup) : (s.withStartup v).register = s.register := rfl
@[simp] theorem State.withStartup_presence (s : State) (v : Startup) : (s.withStartup v).presence = s.presence := rfl
@[simp] theorem State.withStartup_lanes (s : State) (v : Startup) : (s.withStartup v).lanes = s.lanes := rfl
@[simp] theorem State.withStartup_stops (s : State) (v : Startup) : (s.withStartup v).stops = s.stops := rfl
@[simp] theorem State.withStartup_doors (s : State) (v : Startup) : (s.withStartup v).doors = s.doors := rfl
@[simp] theorem State.withStartup_store (s : State) (v : Startup) : (s.withStartup v).store = s.store := rfl
@[simp] theorem State.withStartup_slots (s : State) (v : Startup) : (s.withStartup v).slots = s.slots := rfl
@[simp] theorem State.withStartup_posting (s : State) (v : Startup) : (s.withStartup v).posting = s.posting := rfl
@[simp] theorem State.withStartup_field (s : State) (v : Startup) : (s.withStartup v).field = s.field := rfl
@[simp] theorem State.withStartup_link (s : State) (v : Startup) : (s.withStartup v).link = s.link := rfl
@[simp] theorem State.withStartup_notices (s : State) (v : Startup) : (s.withStartup v).notices = s.notices := rfl
@[simp] theorem State.withStartup_clock (s : State) (v : Startup) : (s.withStartup v).clock = s.clock := rfl
@[simp] theorem State.withStartup_startup (s : State) (v : Startup) : (s.withStartup v).startup = v := rfl
@[simp] theorem State.withStartup_log (s : State) (v : Startup) : (s.withStartup v).log = s.log := rfl
@[simp] theorem State.withStartup_self (s : State) : s.withStartup s.startup = s := rfl

@[simp] theorem State.withLog_pending (s : State) (v : AuditLog) : (s.withLog v).pending = s.pending := rfl
@[simp] theorem State.withLog_powered (s : State) (v : AuditLog) : (s.withLog v).powered = s.powered := rfl
@[simp] theorem State.withLog_now (s : State) (v : AuditLog) : (s.withLog v).now = s.now := rfl
@[simp] theorem State.withLog_pins (s : State) (v : AuditLog) : (s.withLog v).pins = s.pins := rfl
@[simp] theorem State.withLog_choice (s : State) (v : AuditLog) : (s.withLog v).choice = s.choice := rfl
@[simp] theorem State.withLog_register (s : State) (v : AuditLog) : (s.withLog v).register = s.register := rfl
@[simp] theorem State.withLog_presence (s : State) (v : AuditLog) : (s.withLog v).presence = s.presence := rfl
@[simp] theorem State.withLog_lanes (s : State) (v : AuditLog) : (s.withLog v).lanes = s.lanes := rfl
@[simp] theorem State.withLog_stops (s : State) (v : AuditLog) : (s.withLog v).stops = s.stops := rfl
@[simp] theorem State.withLog_doors (s : State) (v : AuditLog) : (s.withLog v).doors = s.doors := rfl
@[simp] theorem State.withLog_store (s : State) (v : AuditLog) : (s.withLog v).store = s.store := rfl
@[simp] theorem State.withLog_slots (s : State) (v : AuditLog) : (s.withLog v).slots = s.slots := rfl
@[simp] theorem State.withLog_posting (s : State) (v : AuditLog) : (s.withLog v).posting = s.posting := rfl
@[simp] theorem State.withLog_field (s : State) (v : AuditLog) : (s.withLog v).field = s.field := rfl
@[simp] theorem State.withLog_link (s : State) (v : AuditLog) : (s.withLog v).link = s.link := rfl
@[simp] theorem State.withLog_notices (s : State) (v : AuditLog) : (s.withLog v).notices = s.notices := rfl
@[simp] theorem State.withLog_clock (s : State) (v : AuditLog) : (s.withLog v).clock = s.clock := rfl
@[simp] theorem State.withLog_startup (s : State) (v : AuditLog) : (s.withLog v).startup = s.startup := rfl
@[simp] theorem State.withLog_log (s : State) (v : AuditLog) : (s.withLog v).log = v := rfl
@[simp] theorem State.withLog_self (s : State) : s.withLog s.log = s := rfl

end Sys2Proof.Machine
end

