-- ==== Sys2Proof/Laws/Table.lean ====
section
/-! SUPPORT. Numbered records: what a read gives after each write, and that every operation keeps the numbers rising. -/

namespace Sys2Proof.Machine

variable {α : Type}

@[simp] theorem Table.find_nil (n : Nat) : Table.find ([] : Table α) n = none := rfl

@[simp] theorem Table.find_insert_self (t : Table α) (n : Nat) (v : α) : (t.insert n v).find n = some v := by
  induction t with
  | nil => simp [Table.insert, Table.find]
  | cons p t ih =>
    obtain ⟨k, w⟩ := p
    simp only [Table.insert]
    split
    · simp [Table.find]
    · split
      · simp [Table.find]
      · simp only [Table.find]
        split
        · omega
        · exact ih

theorem Table.find_insert_of_ne (t : Table α) {n m : Nat} (v : α) (h : m ≠ n) : (t.insert n v).find m = t.find m := by
  have h' : n ≠ m := fun e => h e.symm
  induction t with
  | nil => simp [Table.insert, Table.find, h']
  | cons p t ih =>
    obtain ⟨k, w⟩ := p
    simp only [Table.insert]
    split
    · simp [Table.find, h']
    · split
      · next hk => subst hk; simp [Table.find, h']
      · simp only [Table.find, ih]

theorem Table.find_insert (t : Table α) (n m : Nat) (v : α) :
    (t.insert n v).find m = if m = n then some v else t.find m := by
  by_cases h : m = n
  · subst h; simp
  · simp [Table.find_insert_of_ne t v h, h]

theorem Table.find_erase (t : Table α) (n m : Nat) : (t.erase n).find m = if m = n then none else t.find m := by
  induction t with
  | nil => simp [Table.erase, Table.find]
  | cons p t ih =>
    obtain ⟨k, w⟩ := p
    simp only [Table.erase, List.filter_cons] at ih ⊢
    by_cases hk : k = n
    · subst hk
      by_cases hm : m = k
      · subst hm; simpa using ih
      · have hm' : k ≠ m := fun e => hm e.symm
        simpa [Table.find, hm, hm'] using ih
    · by_cases hm : m = n
      · subst hm; simpa [Table.find, hk] using ih
      · simp only [hm, ite_false] at ih ⊢
        simp [hk, Table.find, ih]

theorem Table.find_mapVals (t : Table α) (f : α → α) (n : Nat) : (t.mapVals f).find n = (t.find n).map f := by
  induction t with
  | nil => rfl
  | cons p t ih =>
    obtain ⟨k, w⟩ := p
    simp only [Table.mapVals, List.map_cons, Table.find] at ih ⊢
    split
    · rfl
    · exact ih

theorem Table.find_modify (t : Table α) (n m : Nat) (f : α → α) :
    (t.modify n f).find m = if m = n then (t.find n).map f else t.find m := by
  unfold Table.modify
  by_cases h : m = n
  · subst h; cases hf : t.find m <;> simp [hf]
  · cases hf : t.find n <;> simp [h, Table.find_insert]

theorem Table.look_put [DecidableEq α] (d : α) (t : Table α) (n m : Nat) (v : α) :
    Table.look d (Table.put d t n v) m = if m = n then v else Table.look d t m := by
  unfold Table.look Table.put
  by_cases hv : v = d
  · subst hv
    by_cases h : m = n <;> simp [Table.find_erase, h]
  · by_cases h : m = n <;> simp [hv, h, Table.find_insert]

/-! ## Writes over writes -/

theorem Table.insert_insert (t : Table α) (n : Nat) (v w : α) : (t.insert n w).insert n v = t.insert n v := by
  induction t with
  | nil => simp [Table.insert]
  | cons p t ih =>
    obtain ⟨k, x⟩ := p
    simp only [Table.insert]
    split
    · simp [Table.insert]
    · split
      · simp [Table.insert]
      · simp_all [Table.insert]

theorem Table.erase_erase (t : Table α) (n : Nat) : (t.erase n).erase n = t.erase n := by
  simp [Table.erase, List.filter_filter]

theorem Table.erase_insert (t : Table α) (n : Nat) (w : α) : (t.insert n w).erase n = t.erase n := by
  induction t with
  | nil => simp [Table.insert, Table.erase]
  | cons p t ih =>
    obtain ⟨k, x⟩ := p
    simp only [Table.insert]
    split
    · simp [Table.erase]
    · split
      · next h => subst h; simp [Table.erase]
      · simp only [Table.erase, List.filter_cons] at ih ⊢
        rw [ih]

/-- The later of two writes stands, where the first one lists its record or both are the same. -/
theorem Table.put_put [DecidableEq α] (d : α) (t : Table α) (n : Nat) (v w : α) (h : w ≠ d ∨ v = w) :
    Table.put d (Table.put d t n w) n v = Table.put d t n v := by
  unfold Table.put
  by_cases hw : w = d
  · have hv : v = d := (h.resolve_left (fun k => k hw)).trans hw
    simp [hv, hw, Table.erase_erase]
  · by_cases hv : v = d <;> simp [hv, hw, Table.erase_insert, Table.insert_insert]

/-! ## The numbers rise -/

theorem Table.mem_insert (t : Table α) (n : Nat) (v : α) (p : Nat × α) (h : p ∈ t.insert n v) : p = (n, v) ∨ p ∈ t := by
  induction t with
  | nil => simpa [Table.insert] using h
  | cons q t ih =>
    obtain ⟨k, w⟩ := q
    simp only [Table.insert] at h
    split at h
    · simpa using h
    · split at h
      · rcases List.mem_cons.1 h with h | h
        · exact .inl h
        · exact .inr (List.mem_cons_of_mem _ h)
      · rcases List.mem_cons.1 h with h | h
        · exact .inr (h ▸ List.mem_cons_self)
        · rcases ih h with h | h
          · exact .inl h
          · exact .inr (List.mem_cons_of_mem _ h)

theorem Table.sorted_insert {t : Table α} (n : Nat) (v : α) (h : t.sorted) : (t.insert n v).sorted := by
  induction t with
  | nil => simp [Table.insert]
  | cons q t ih =>
    obtain ⟨k, w⟩ := q
    have ht := List.pairwise_cons.1 h
    simp only [Table.insert]
    split
    · next hn =>
      refine List.pairwise_cons.2 ⟨?_, h⟩
      intro p hp
      rcases List.mem_cons.1 hp with rfl | hp
      · exact hn
      · exact Nat.lt_trans hn (ht.1 p hp)
    · split
      · next hn => subst hn; exact List.pairwise_cons.2 ⟨ht.1, ht.2⟩
      · refine List.pairwise_cons.2 ⟨?_, ih ht.2⟩
        intro p hp
        rcases Table.mem_insert t n v p hp with rfl | hp
        · show k < n; omega
        · exact ht.1 p hp

theorem Table.sorted_erase {t : Table α} (n : Nat) (h : t.sorted) : (t.erase n).sorted :=
  List.Pairwise.filter _ h

theorem Table.sorted_mapVals {t : Table α} (f : α → α) (h : t.sorted) : (t.mapVals f).sorted := by
  unfold Table.mapVals
  exact List.pairwise_map.2 h

theorem Table.sorted_modify {t : Table α} (n : Nat) (f : α → α) (h : t.sorted) : (t.modify n f).sorted := by
  unfold Table.modify
  split
  · exact Table.sorted_insert n _ h
  · exact h

theorem Table.sorted_put [DecidableEq α] {t : Table α} (d : α) (n : Nat) (v : α) (h : t.sorted) :
    (Table.put d t n v).sorted := by
  unfold Table.put
  split
  · exact Table.sorted_erase n h
  · exact Table.sorted_insert n v h

theorem Table.put_noDefault [DecidableEq α] {t : Table α} (d : α) (n : Nat) (v : α) (h : ∀ p ∈ t, p.2 ≠ d) :
    ∀ p ∈ Table.put d t n v, p.2 ≠ d := by
  unfold Table.put
  split
  · intro p hp
    exact h p (List.mem_filter.1 hp).1
  · next hv =>
    intro p hp
    rcases Table.mem_insert t n v p hp with rfl | hp
    · exact hv
    · exact h p hp

theorem Table.sorted_mapPut [DecidableEq α] {t : Table α} (d : α) (f : α → α) (h : t.sorted) :
    (Table.mapPut d f t).sorted :=
  List.Pairwise.filter _ (List.pairwise_map.2 h)

theorem Table.mapPut_noDefault [DecidableEq α] (d : α) (f : α → α) (t : Table α) :
    ∀ p ∈ Table.mapPut d f t, p.2 ≠ d := by
  intro p hp
  simpa using (List.mem_filter.1 hp).2

end Sys2Proof.Machine
end

