-- ==== Sys2Proof/Laws/Ops.lean ====
section
/-! SUPPORT. The shared operations: for each, once, everything it can do. -/

namespace Sys2Proof.Machine

/-! ## Commands and answers -/

theorem live_powered (f : State → State) {s : State} (h : s.powered = true) : live f s = .next (f s) := by
  simp [live, h]

theorem live_unpowered (f : State → State) {s : State} (h : s.powered = false) : live f s = .next s := by
  simp [live, h]

theorem orFormat_none {α : Type} (n : Nat) (s : State) (f : α → Answer) :
    orFormat { length := n, fields := none } s f = refuse s .format := rfl

theorem orFormat_some {α : Type} (n : Nat) (x : α) (s : State) (f : α → Answer) :
    orFormat { length := n, fields := some x } s f = f x := rfl

theorem bump_le (n : Nat) (h : n ≤ 65535) : bump n ≤ 65535 := by
  unfold bump Limits.counterTop
  split <;> omega

/-! ## Notices -/

theorem lowestLevel_present : ∀ q : List Notice, q ≠ [] → ∃ n ∈ q, n.level = lowestLevel q
  | [], h => absurd rfl h
  | [n], _ => ⟨n, List.mem_singleton.2 rfl, rfl⟩
  | n :: m :: ns, _ => by
    obtain ⟨k, hk, he⟩ := lowestLevel_present (m :: ns) (by simp)
    by_cases h : n.level ≤ lowestLevel (m :: ns)
    · exact ⟨n, List.mem_cons_self, by show n.level = min n.level (lowestLevel (m :: ns)); omega⟩
    · exact ⟨k, List.mem_cons_of_mem _ hk, by show k.level = min n.level (lowestLevel (m :: ns)); omega⟩

theorem highestLevel_present : ∀ q : List Notice, q ≠ [] → ∃ n ∈ q, n.level = highestLevel q
  | [], h => absurd rfl h
  | [n], _ => ⟨n, List.mem_singleton.2 rfl, by simp [highestLevel]⟩
  | n :: m :: ns, _ => by
    obtain ⟨k, hk, he⟩ := highestLevel_present (m :: ns) (by simp)
    by_cases h : highestLevel (m :: ns) ≤ n.level
    · exact ⟨n, List.mem_cons_self, by show n.level = max n.level (highestLevel (m :: ns)); omega⟩
    · exact ⟨k, List.mem_cons_of_mem _ hk, by show k.level = max n.level (highestLevel (m :: ns)); omega⟩

/-- A notice joins where there is room; a full queue keeps its length, and counts the notice lost (R182). -/
theorem Notices.arrive_cases (u : Notices) (n : Notice) :
    (u.queue.length < 64 ∧ u.arrive n = { u with queue := u.queue ++ [n] }) ∨
    (64 ≤ u.queue.length ∧ (u.arrive n).queue.length = u.queue.length ∧ (u.arrive n).dropped = bump u.dropped ∧
      (u.arrive n).levels = u.levels) := by
  unfold Notices.arrive Limits.notices
  split
  · next h => exact .inl ⟨h, rfl⟩
  · next h =>
    refine .inr ⟨by omega, ?_⟩
    split
    · have hne : u.queue ≠ [] := by intro e; simp [e] at h
      obtain ⟨k, hk, he⟩ := lowestLevel_present u.queue hne
      refine ⟨?_, rfl, rfl⟩
      simp only [List.length_append, List.length_singleton]
      rw [List.length_eraseP_of_mem hk (by simp [he])]
      omega
    · exact ⟨rfl, rfl, rfl⟩

/-- Raising a notice moves the notices alone: the queue, within its 64 places, and the dropped count (R181, R182). -/
theorem raise_cases (name : NoticeName) (content : List Field) (s : State) :
    ∃ u : Notices, raise name content s = s.withNotices u ∧ u.levels = s.notices.levels ∧
      (s.notices.queue.length ≤ 64 → u.queue.length ≤ 64) ∧ (s.notices.dropped ≤ 65535 → u.dropped ≤ 65535) := by
  unfold raise
  split
  · exact ⟨s.notices, rfl, rfl, id, id⟩
  · refine ⟨_, rfl, ?_⟩
    rcases Notices.arrive_cases s.notices
      { name, level := s.notices.levels.get name.cls, time := s.clock, content } with ⟨h, e⟩ | ⟨h, hl, hd, hv⟩
    · rw [e]
      exact ⟨rfl, fun _ => by simp; omega, id⟩
    · exact ⟨hv, fun h' => by omega, fun h' => by rw [hd]; exact bump_le _ h'⟩

/-! ## The audit log -/

/-- An entry handed to the log: it joins, is dropped, or overwrites the oldest (R192). -/
theorem AuditLog.hand_length (l : AuditLog) (e : LogEntry) (h : l.entries.length ≤ 2048) :
    (l.hand e).entries.length ≤ 2048 := by
  unfold AuditLog.hand Limits.logEntries
  split
  · simp; omega
  · split
    · exact h
    · simp only [List.length_append, List.length_singleton, List.length_drop]; omega

/-- Writing an entry moves the log and, where LOG-FILL is raised, the notices (R192, R195). -/
theorem writeEntry_cases (kind : EntryKind) (term : Option TermId) (record : Option Nat) (outcome : Option EntryOutcome)
    (details : List Detail) (s : State) :
    ∃ (l : AuditLog) (u : Notices), writeEntry kind term record outcome details s = (s.withLog l).withNotices u ∧
      l.entries = (s.log.hand { time := s.clock, kind, term, record, outcome, details }).entries ∧
      l.mode = s.log.mode ∧ u.levels = s.notices.levels ∧
      (s.notices.queue.length ≤ 64 → u.queue.length ≤ 64) ∧ (s.notices.dropped ≤ 65535 → u.dropped ≤ 65535) := by
  have mode : (s.log.hand { time := s.clock, kind, term, record, outcome, details }).mode = s.log.mode := by
    unfold AuditLog.hand
    repeat' split
    all_goals rfl
  simp only [writeEntry]
  split
  · obtain ⟨u, hu, hl, hq, hd⟩ := raise_cases .logFill
      [.u2 (s.log.hand { time := s.clock, kind, term, record, outcome, details }).entries.length,
        .u1 (s.log.hand { time := s.clock, kind, term, record, outcome, details }).mode.num,
        .u2 (s.log.hand { time := s.clock, kind, term, record, outcome, details }).dropped,
        .u2 (s.log.hand { time := s.clock, kind, term, record, outcome, details }).overwritten]
      (s.withLog { s.log.hand { time := s.clock, kind, term, record, outcome, details } with fired := true })
    exact ⟨_, u, hu, rfl, mode, hl, hq, hd⟩
  · exact ⟨_, s.notices, rfl, rfl, mode, rfl, id, id⟩

/-! ## Records by number -/

@[simp] theorem State.setCard_card (s : State) (n m : Nat) (c : Card) :
    (s.setCard n c).card? m = if m = n then some c else s.card? m := Table.find_insert _ _ _ _

theorem State.modifyCard_card (s : State) (n m : Nat) (f : Card → Card) :
    (s.modifyCard n f).card? m = if m = n then (s.card? n).map f else s.card? m := Table.find_modify _ _ _ _

@[simp] theorem State.setAccount_account (s : State) (n m : Nat) (a : Account) :
    (s.setAccount n a).account? m = if m = n then some a else s.account? m := Table.find_insert _ _ _ _

@[simp] theorem State.setTrip_trip (s : State) (n m : Nat) (t : Trip) :
    (s.setTrip n t).trip? m = if m = n then some t else s.trip? m := Table.find_insert _ _ _ _

theorem State.setLane_lane (s : State) (n m : Nat) (l : Lane) (h : validLane n = true) :
    (s.setLane n l).lane m = if m = n then l else s.lane m := by
  simp only [State.setLane, h, ite_true, State.lane, State.withLanes_lanes, Table.look_put]

theorem State.setLine_line (s : State) (n m : Nat) (l : Line) (h : validLine n = true) :
    (s.setLine n l).line m = if m = n then l else s.line m := by
  simp only [State.setLine, h, ite_true, State.line, State.withField_field, Table.look_put]

/-- Two terminals that exist are kept under two numbers. -/
theorem termKey_inj {t u : TermId} (ht : validTerm t = true) (hu : validTerm u = true) (h : termKey t = termKey u) :
    t = u := by
  obtain ⟨l, a⟩ := t
  obtain ⟨m, b⟩ := u
  simp only [validTerm, validLine, Bool.and_eq_true, decide_eq_true_eq] at ht hu
  simp only [Limits.lines, Limits.addresses] at ht hu
  simp only [termKey] at h
  have h1 : l = m := by omega
  have h2 : a = b := by omega
  rw [h1, h2]

theorem State.setTerm_term (s : State) (t u : TermId) (r : Terminal) (ht : validTerm t = true) :
    (s.setTerm t r).term u = if u = t then r else s.term u := by
  simp only [State.setTerm, ht, ite_true, State.term, State.withField_field, Table.look_put]
  by_cases hu : validTerm u = true
  · by_cases e : u = t
    · subst e; simp [ht]
    · have : termKey u ≠ termKey t := fun k => e (termKey_inj hu ht k)
      simp [hu, e, this]
  · have : u ≠ t := fun e => hu (e ▸ ht)
    simp [hu, this]

theorem State.setDoor_door (s : State) (t u : TermId) (d : Door) (ht : validTerm t = true) :
    (s.setDoor t d).door? u = if u = t then some d else s.door? u := by
  simp only [State.setDoor, ht, ite_true, State.door?, State.withDoors_doors, Table.find_insert]
  by_cases hu : validTerm u = true
  · by_cases e : u = t
    · subst e; simp [ht]
    · have : termKey u ≠ termKey t := fun k => e (termKey_inj hu ht k)
      simp [hu, e, this]
  · have : u ≠ t := fun e => hu (e ▸ ht)
    simp [hu, this]

theorem State.setSlot_slot (s : State) (t u : TermId) (x : Slot) (ht : validTerm t = true) :
    (s.setSlot t x).slot? u = if u = t then some x else s.slot? u := by
  simp only [State.setSlot, ht, ite_true, State.slot?, State.withSlots_slots, Table.find_insert]
  by_cases hu : validTerm u = true
  · by_cases e : u = t
    · subst e; simp [ht]
    · have : termKey u ≠ termKey t := fun k => e (termKey_inj hu ht k)
      simp [hu, e, this]
  · have : u ≠ t := fun e => hu (e ▸ ht)
    simp [hu, this]

/-! ## The flags (R28, R29, R98 to R100) -/

/-- Setting a conflict writes one card's conflict, moves the conflict count and raises a notice; nothing else (R28). -/
theorem setConflict_cases (n : Nat) (r : ConflictReason) (src : ConflictSource) (s : State) :
    setConflict n r src s = s ∨
    ∃ (c : Card) (u : Notices), s.card? n = some c ∧ c.counted = true ∧
      setConflict n r src s =
        (((s.withConflicts (if c.conflict.isSome then s.presence.conflicts else s.presence.conflicts + 1)).setCard n
          { c with conflict := some r }).withNotices u) := by
  unfold setConflict
  split
  · exact .inl rfl
  · next c hc =>
    split
    · next hk =>
      obtain ⟨u, hu, -⟩ := raise_cases .conflictSet ([.num (some n), .u1 r.num] ++ src.fields)
        ((s.withConflicts (if c.conflict.isSome then s.presence.conflicts else s.presence.conflicts + 1)).setCard n
          { c with conflict := some r })
      exact .inr ⟨c, u, hc, hk, hu⟩
    · exact .inl rfl

/-- Clearing a conflict that is set clears it, lowers the count and raises a notice; a clear one stays (R29). -/
theorem clearConflict_cases (n : Nat) (cause : ClearCause) (s : State) :
    clearConflict n cause s = s ∨
    ∃ (c : Card) (u : Notices), s.card? n = some c ∧ c.conflict.isSome = true ∧
      clearConflict n cause s =
        ((s.withConflicts (s.presence.conflicts - 1)).setCard n { c with conflict := none }).withNotices u := by
  unfold clearConflict
  split
  · exact .inl rfl
  · next c hc =>
    split
    · next hk =>
      obtain ⟨u, hu, -⟩ := raise_cases .conflictCleared [.num (some n), .u1 cause.num]
        ((s.withConflicts (s.presence.conflicts - 1)).setCard n { c with conflict := none })
      exact .inr ⟨c, u, hc, hk, hu⟩
    · exact .inl rfl

/-- Writing an account writes it with its warning evaluated, and may raise a notice (R98 to R100). -/
theorem writeAccount_cases (n : Nat) (a : Account) (cause : WarningCause) (s : State) :
    ∃ u : Notices,
      writeAccount n a cause s = (s.setAccount n { a with warning := a.evaluated }).withNotices u := by
  simp only [writeAccount]
  split
  · exact ⟨s.notices, rfl⟩
  · obtain ⟨u, hu, -⟩ := raise_cases (if a.evaluated then .warningSet else .warningCleared)
      [.num (some n), .money a.exposure, .money a.limit, .u1 cause.num] (s.setAccount n { a with warning := a.evaluated })
    exact ⟨u, hu⟩

/-! ## Lines and terminals apart -/

@[simp] theorem State.setLine_term (s : State) (l : Nat) (y : Line) (t : TermId) : (s.setLine l y).term t = s.term t := by
  unfold State.setLine State.term
  by_cases h : validLine l = true <;> simp only [h, if_true] <;> rfl

@[simp] theorem State.setTerm_line (s : State) (t : TermId) (r : Terminal) (l : Nat) : (s.setTerm t r).line l = s.line l := by
  unfold State.setTerm State.line
  by_cases h : validTerm t = true <;> simp only [h, if_true] <;> rfl

theorem State.setTerm_setLine (s : State) (t : TermId) (r : Terminal) (l : Nat) (y : Line) :
    (s.setLine l y).setTerm t r = (s.setTerm t r).setLine l y := by
  unfold State.setTerm State.setLine
  by_cases h1 : validTerm t = true <;> by_cases h2 : validLine l = true <;> simp [h1, h2, State.withField]

theorem State.setLine_setLine (s : State) (l : Nat) (v w : Line) (h : w ≠ Line.initial ∨ v = w) :
    (s.setLine l w).setLine l v = s.setLine l v := by
  unfold State.setLine
  split
  · simp [State.withField, Table.put_put _ _ _ _ _ h]
  · rfl

theorem State.setTerm_setTerm (s : State) (t : TermId) (v w : Terminal) (h : w ≠ Terminal.initial ∨ v = w) :
    (s.setTerm t w).setTerm t v = s.setTerm t v := by
  unfold State.setTerm
  split
  · simp [State.withField, Table.put_put _ _ _ _ _ h]
  · rfl

/-! ## The state of a line and its sweep (R149, R167) -/

@[simp] theorem Line.enter_rate (x : Line) (v : LineState) : (x.enter v).rate = x.rate := rfl
@[simp] theorem Line.enter_enabled (x : Line) (v : LineState) : (x.enter v).enabled = x.enabled := rfl
@[simp] theorem Line.enter_slowPermitted (x : Line) (v : LineState) : (x.enter v).slowPermitted = x.slowPermitted := rfl
@[simp] theorem Line.enter_state (x : Line) (v : LineState) : (x.enter v).state = v := rfl
@[simp] theorem Line.enter_badCheck (x : Line) (v : LineState) : (x.enter v).badCheck = x.badCheck := rfl
@[simp] theorem Line.enter_truncated (x : Line) (v : LineState) : (x.enter v).truncated = x.truncated := rfl
@[simp] theorem Line.enter_wrongAddress (x : Line) (v : LineState) : (x.enter v).wrongAddress = x.wrongAddress := rfl
@[simp] theorem Line.enter_noReply (x : Line) (v : LineState) : (x.enter v).noReply = x.noReply := rfl
@[simp] theorem Line.enter_roundPos (x : Line) (v : LineState) : (x.enter v).roundPos = x.roundPos := rfl
@[simp] theorem Line.enter_priorityRun (x : Line) (v : LineState) : (x.enter v).priorityRun = x.priorityRun := rfl
@[simp] theorem Line.enter_exchange (x : Line) (v : LineState) : (x.enter v).exchange = x.exchange := rfl
@[simp] theorem Line.enter_inSweep (x : Line) (v : LineState) : (x.enter v).inSweep = false := rfl
@[simp] theorem Line.enter_sweepEvent (x : Line) (v : LineState) : (x.enter v).sweepEvent = false := rfl
@[simp] theorem Line.enter_slowLeft (x : Line) (v : LineState) : (x.enter v).slowLeft = [] := rfl

/-- A sweep is over when no terminal of the round is left at or after the round position, or the round has wrapped. -/
theorem sweepOver_iff (s : State) (l : Nat) :
    sweepOver s l = true ↔
      (s.line l).inSweep = true ∧
        ((s.line l).roundPos = 1 ∨ ∀ a ∈ allAddresses, (s.line l).roundPos ≤ a → (s.termAt l a).inRound = false) := by
  simp only [sweepOver, roundPassed, Bool.and_eq_true, Bool.or_eq_true, beq_iff_eq, List.all_eq_true, decide_eq_true_eq,
    Bool.not_eq_true']
  refine and_congr_right fun _ => or_congr_right (forall_congr' fun a => forall_congr' fun _ => ?_)
  rw [← Nat.not_lt, Decidable.or_iff_not_imp_left]

/-- A line with an exchange in progress chooses no poll when it is woken: it only leaves SLOW (R168). -/
theorem wake_of_exchange (l : Nat) (s : State) (h : validLine l = true) (he : (s.line l).exchange.isSome = true) :
    wake l s = if (s.line l).state = .slow then s.setLine l ((s.line l).enter .running) else s := by
  unfold wake kick
  by_cases hs : (s.line l).state = .slow
  · simp [hs, State.setLine_line _ _ _ _ h, he]
  · simp [hs, he]

end Sys2Proof.Machine
end

