-- ==== Sys2Proof/Laws/Link.lean ====
section
/-! SUPPORT. The host link: a request that may be served at once is served, and nothing else moves; when a warm reset is
taken; the rate the straps select; a body's fields that may be absent. -/

namespace Sys2Proof.Machine

/-- The state of a request served at once: what its block answers, with the reply placed (R177, R178). -/
theorem requestArrives_ready (tag : Byte) (req : Request) (s : State) (h : Ready s (requestLength req)) :
    requestArrives tag req s = answerRequest tag req s := by
  obtain ⟨-, hf, hr, hw, ho, hl, hroom⟩ := h
  have fill : s.link.fill = s.link.rxBytes.length := by simp [Link.fill, hf]
  have h1 : ¬ (1020 + 7 < requestLength req + 7) := by omega
  have h2 : ¬ (2048 < s.link.fill + (requestLength req + 7)) := by omega
  have h3 : ¬ (1536 ≤ s.link.fill + (requestLength req + 7)) := by omega
  have h4 : ¬ (1536 ≤ s.link.rxBytes.length) := by omega
  have may : s.link.mayServe = true := by simp [Link.mayServe, hw, Limits.replies, hr]
  have back : ({ s.link with frames := [] } : Link).compared = s.link := by
    simp only [Link.compared, Link.fill, FlowState.compare, ho, Limits.pauseFill, List.map_nil, List.sum_nil,
      Nat.add_zero, h4, ite_false]
    cases hlk : s.link
    simp_all
  have flow : s.link.flow.compare (s.link.fill + (requestLength req + 7)) = s.link.flow := by
    simp only [FlowState.compare, ho, Limits.pauseFill, h3, ite_false]
  simp only [requestArrives, receiveFrame, Limits.bodyBytes, Limits.bufferBytes, h1, h2, ite_false, flow]
  simp only [serveAll, State.withLink_link, hf, List.nil_append, handover]
  have may' : Link.mayServe
      { s.link with frames := [{ size := requestLength req + 7, tag := tag, req := req }] } = true := may
  simp only [may', ite_true]
  congr 1
  exact congrArg s.withLink back

/-- A request command on a part ready for it answers the next state its block gives, with the reply placed. -/
theorem live_request_ready (tag : Byte) (req : Request) (s : State) (h : Ready s (requestLength req)) :
    live (requestArrives tag req) s = .next (answerRequest tag req s) := by
  rw [live_powered _ h.1, requestArrives_ready tag req s h]

/-- A reply placed on a state whose link the request left alone, in the words of the claims. -/
theorem placeReply_eq (r : Reply) (s : State) :
    placeReply r s = replied r.kind r.tag r.status r.body s := rfl

/-! ## The warm reset (R187) -/

/-- The PART-RESET reply is being sent: the reset waits and the frame begun is that reply, and nothing else will do. -/
theorem sendingReset_iff (l : Link) :
    l.sendingReset = true ↔
      l.resetWaiting = true ∧ ∃ r, l.sending = some (.reply r) ∧ r.kind = 0x6C ∧ r.status = .ok := by
  unfold Link.sendingReset
  cases l.sending with
  | none => simp
  | some f => cases f <;> simp [Reply.isReset]

/-- The end of a frame that is no PART-RESET reply resets nothing. -/
theorem resetReplySent_of_not (fails : Groups) (straps : Straps) (s : State) (h : s.link.sendingReset = false) :
    resetReplySent fails straps s = s := by
  simp [resetReplySent, h]

/-- The end of the PART-RESET reply is the warm reset. -/
theorem resetReplySent_of (fails : Groups) (straps : Straps) (s : State) (h : s.link.sendingReset = true) :
    resetReplySent fails straps s = warmReset fails straps s := by
  simp [resetReplySent, h]

/-! ## The link rate (R202) -/

/-- The four positions of the straps, RATE1 before RATE0, and the rates they select. -/
theorem linkRate_baud (x : Straps) :
    (linkRate x).baud =
      if x.rate1 then (if x.rate0 then 921600 else 460800) else (if x.rate0 then 230400 else 115200) := by
  obtain ⟨a, b⟩ := x
  cases a <;> cases b <;> rfl

/-! ## Fields that may be absent (R198) -/

/-- A value of the field's range is never absent, whatever marks a field absent. -/
theorem openField_inRange {α : Type} (f : Config.OpenField) (bs : List Byte) (v : α) : openField f bs true v = some v := by
  simp [openField]

/-- A field read is its value, or absent by a mark out of its range. -/
theorem openField_cases {α : Type} (f : Config.OpenField) (bs : List Byte) (inRange : Bool) (v : α) :
    openField f bs inRange v = some v ∨ (inRange = false ∧ openField f bs inRange v = none) := by
  unfold openField
  cases inRange <;> cases Config.absentMark f bs <;> simp

/-- Every value but the absent one is itself. -/
theorem unlessAbsent_of_ne (n v : Nat) (h : v ≠ n) : unlessAbsent n v = some v := by
  simp [unlessAbsent, h]

@[simp] theorem unlessAbsent_self (n : Nat) : unlessAbsent n n = none := by
  simp [unlessAbsent]

end Sys2Proof.Machine
end

