-- ==== Sys2Proof/Laws/PerInstr.lean ====
section
/-! SUPPORT. What every command is held to as syntax, command by command: the bytes it stands for on a link fit the frame
they come in (R172, R199). -/

namespace Sys2Proof.Laws.Form

/-- The bytes that a command carries: a request's body, or a terminal's whole reply frame. -/
def carried : Instr → Nat
  | .powerOn _ _ => 0
  | .warmReset _ _ => 0
  | .cardIssue _ b => b.length
  | .cardReissue _ b => b.length
  | .cardStatus _ b => b.length
  | .cardSet _ b => b.length
  | .cardVacate _ b => b.length
  | .cardRead _ b => b.length
  | .cardFind _ b => b.length
  | .presenceSet _ b => b.length
  | .conflictClear _ b => b.length
  | .countRead _ b => b.length
  | .tripOpen _ b => b.length
  | .tripCastoff _ b => b.length
  | .tripClear _ b => b.length
  | .tripRead _ b => b.length
  | .callSet _ b => b.length
  | .sail _ b => b.length
  | .arrive _ b => b.length
  | .leftRead _ b => b.length
  | .laneSet _ b => b.length
  | .laneRead _ b => b.length
  | .doorConfig _ b => b.length
  | .doorRead _ b => b.length
  | .doorOpen _ b => b.length
  | .accountSet _ b => b.length
  | .accountClose _ b => b.length
  | .accountRead _ b => b.length
  | .itemSet _ b => b.length
  | .itemRead _ b => b.length
  | .outletSet _ b => b.length
  | .outletRead _ b => b.length
  | .dayRoll _ b => b.length
  | .chargeRead _ b => b.length
  | .chargePosted _ b => b.length
  | .lineSet _ b => b.length
  | .lineRead _ b => b.length
  | .termBind _ b => b.length
  | .termEnable _ b => b.length
  | .termDisable _ b => b.length
  | .termRead _ b => b.length
  | .logMode _ b => b.length
  | .logRead _ b => b.length
  | .noticeLevel _ b => b.length
  | .clockSet _ b => b.length
  | .partStatus _ b => b.length
  | .partClear _ b => b.length
  | .partReset _ b => b.length
  | .unknownKindRequest _ _ length => length
  | .hostPause => 0
  | .hostResume => 0
  | .hostRxByte _ => 0
  | .rxGapTimeout => 0
  | .rxIdleTimeout => 0
  | .txFrameBegin => 0
  | .clockSecond => 0
  | .fieldReply _ frame => frame.length
  | .replyTimeout _ => 0
  | .replyGapTimeout _ => 0
  | .probeDue _ => 0
  | .slowSweep _ => 0
  | .lineBreak _ => 0
  | .lineFaultCheck _ _ => 0
  | .doorPresent _ _ => 0
  | .doorPrivacy _ _ => 0
  | .doorContact _ _ => 0
  | .openAck _ => 0
  | .showAck _ => 0
  | .overrideWindowExpiry _ => 0
  | .holdExpiry _ => 0
  | .ajarExpiry _ => 0
  | .streakQuietExpiry _ => 0
  | .gatePresent _ _ => 0
  | .pacingTick _ => 0
  | .releaseAck _ => 0
  | .revokeAck _ => 0
  | .gatePassed _ => 0
  | .firstGateTimeout _ => 0
  | .secondGateTimeout _ => 0
  | .stopInputChange _ _ => 0
  | .barPurchase _ _ _ => 0
  | .barKeyConfirm _ => 0
  | .barKeyCancel _ => 0
  | .quoteExpiry _ => 0
  | .quoteAck _ => 0
  | .resultAck _ => 0
  | .lossOfSupply => 0

/-- A command of the right form carries no more bytes than a body may have. -/
def Statement (i : Instr) : Prop := i.wellFormed = true → carried i ≤ 1020

/-- A body of fixed width that is of the right form fits a frame. -/
theorem bodyForm_fits {α : Type} {w : Nat} {b : Body α} {f : α → Bool} (h : bodyForm w b f = true) : b.length ≤ 1020 := by
  simp only [bodyForm, bodyFits, Bool.and_eq_true, decide_eq_true_eq] at h
  exact h.1

/-- A body of open width that is of the right form fits a frame. -/
theorem bodyOpen_fits {α : Type} {b : Body α} {f : α → Bool} (h : bodyOpen b f = true) : b.length ≤ 1020 := by
  simp only [bodyOpen, bodyFits, Bool.and_eq_true, decide_eq_true_eq] at h
  exact h.1

/-- What carries nothing fits. -/
theorem nothing {i : Instr} (h : carried i = 0) : Statement i := fun _ => h ▸ Nat.zero_le 1020

theorem powerOn (fails : Groups) (straps : Straps) : Statement (.powerOn fails straps) := nothing rfl

theorem warmReset (fails : Groups) (straps : Straps) : Statement (.warmReset fails straps) := nothing rfl

theorem cardIssue (tag : Byte) (b : Body CardIssueReq) : Statement (.cardIssue tag b) := bodyOpen_fits

theorem cardReissue (tag : Byte) (b : Body CardReissueReq) : Statement (.cardReissue tag b) := bodyForm_fits

theorem cardStatus (tag : Byte) (b : Body CardStatusReq) : Statement (.cardStatus tag b) := bodyForm_fits

theorem cardSet (tag : Byte) (b : Body CardSetReq) : Statement (.cardSet tag b) := bodyOpen_fits

theorem cardVacate (tag : Byte) (b : Body Nat) : Statement (.cardVacate tag b) := bodyForm_fits

theorem cardRead (tag : Byte) (b : Body Nat) : Statement (.cardRead tag b) := bodyForm_fits

theorem cardFind (tag : Byte) (b : Body Serial) : Statement (.cardFind tag b) := bodyForm_fits

theorem presenceSet (tag : Byte) (b : Body PresenceSetReq) : Statement (.presenceSet tag b) := bodyForm_fits

theorem conflictClear (tag : Byte) (b : Body Nat) : Statement (.conflictClear tag b) := bodyForm_fits

theorem countRead (tag : Byte) (b : Body Unit) : Statement (.countRead tag b) := bodyForm_fits

theorem tripOpen (tag : Byte) (b : Body TripOpenReq) : Statement (.tripOpen tag b) := bodyForm_fits

theorem tripCastoff (tag : Byte) (b : Body Nat) : Statement (.tripCastoff tag b) := bodyForm_fits

theorem tripClear (tag : Byte) (b : Body Nat) : Statement (.tripClear tag b) := bodyForm_fits

theorem tripRead (tag : Byte) (b : Body TripReadReq) : Statement (.tripRead tag b) := bodyForm_fits

theorem callSet (tag : Byte) (b : Body Nat) : Statement (.callSet tag b) := bodyForm_fits

theorem sail (tag : Byte) (b : Body Nat) : Statement (.sail tag b) := bodyForm_fits

theorem arrive (tag : Byte) (b : Body Unit) : Statement (.arrive tag b) := bodyForm_fits

theorem leftRead (tag : Byte) (b : Body Nat) : Statement (.leftRead tag b) := bodyForm_fits

theorem laneSet (tag : Byte) (b : Body LaneSetReq) : Statement (.laneSet tag b) := bodyForm_fits

theorem laneRead (tag : Byte) (b : Body Nat) : Statement (.laneRead tag b) := bodyForm_fits

theorem doorConfig (tag : Byte) (b : Body DoorConfigReq) : Statement (.doorConfig tag b) := bodyForm_fits

theorem doorRead (tag : Byte) (b : Body Nat) : Statement (.doorRead tag b) := bodyForm_fits

theorem doorOpen (tag : Byte) (b : Body Nat) : Statement (.doorOpen tag b) := bodyForm_fits

theorem accountSet (tag : Byte) (b : Body AccountSetReq) : Statement (.accountSet tag b) := bodyOpen_fits

theorem accountClose (tag : Byte) (b : Body Nat) : Statement (.accountClose tag b) := bodyForm_fits

theorem accountRead (tag : Byte) (b : Body Nat) : Statement (.accountRead tag b) := bodyForm_fits

theorem itemSet (tag : Byte) (b : Body ItemSetReq) : Statement (.itemSet tag b) := bodyForm_fits

theorem itemRead (tag : Byte) (b : Body Nat) : Statement (.itemRead tag b) := bodyForm_fits

theorem outletSet (tag : Byte) (b : Body OutletSetReq) : Statement (.outletSet tag b) := bodyForm_fits

theorem outletRead (tag : Byte) (b : Body Nat) : Statement (.outletRead tag b) := bodyForm_fits

theorem dayRoll (tag : Byte) (b : Body Unit) : Statement (.dayRoll tag b) := bodyForm_fits

theorem chargeRead (tag : Byte) (b : Body Nat) : Statement (.chargeRead tag b) := bodyForm_fits

theorem chargePosted (tag : Byte) (b : Body Nat) : Statement (.chargePosted tag b) := bodyForm_fits

theorem lineSet (tag : Byte) (b : Body LineSetReq) : Statement (.lineSet tag b) := bodyForm_fits

theorem lineRead (tag : Byte) (b : Body LineReadReq) : Statement (.lineRead tag b) := bodyForm_fits

theorem termBind (tag : Byte) (b : Body TermBindReq) : Statement (.termBind tag b) := bodyOpen_fits

theorem termEnable (tag : Byte) (b : Body TermId) : Statement (.termEnable tag b) := bodyForm_fits

theorem termDisable (tag : Byte) (b : Body TermId) : Statement (.termDisable tag b) := bodyForm_fits

theorem termRead (tag : Byte) (b : Body TermId) : Statement (.termRead tag b) := bodyForm_fits

theorem logMode (tag : Byte) (b : Body Nat) : Statement (.logMode tag b) := bodyForm_fits

theorem logRead (tag : Byte) (b : Body Unit) : Statement (.logRead tag b) := bodyForm_fits

theorem noticeLevel (tag : Byte) (b : Body NoticeLevelReq) : Statement (.noticeLevel tag b) := bodyForm_fits

theorem clockSet (tag : Byte) (b : Body ClockSetReq) : Statement (.clockSet tag b) := bodyForm_fits

theorem partStatus (tag : Byte) (b : Body Nat) : Statement (.partStatus tag b) := bodyForm_fits

theorem partClear (tag : Byte) (b : Body Unit) : Statement (.partClear tag b) := bodyForm_fits

theorem partReset (tag : Byte) (b : Body Unit) : Statement (.partReset tag b) := bodyForm_fits

theorem unknownKindRequest (tag : Byte) (kind : Nat) (length : Nat) : Statement (.unknownKindRequest tag kind length) :=
  by
  intro h
  simp only [Instr.wellFormed, bodyFits, Bool.and_eq_true, decide_eq_true_eq] at h
  exact h.2

theorem hostPause : Statement .hostPause := nothing rfl

theorem hostResume : Statement .hostResume := nothing rfl

theorem hostRxByte (b : Byte) : Statement (.hostRxByte b) := nothing rfl

theorem rxGapTimeout : Statement .rxGapTimeout := nothing rfl

theorem rxIdleTimeout : Statement .rxIdleTimeout := nothing rfl

theorem txFrameBegin : Statement .txFrameBegin := nothing rfl

theorem clockSecond : Statement .clockSecond := nothing rfl

theorem fieldReply (line : Nat) (frame : List Byte) : Statement (.fieldReply line frame) := by
  intro h
  simp only [Instr.wellFormed, Bool.and_eq_true, decide_eq_true_eq] at h
  exact Nat.le_trans h.2 (by decide)

theorem replyTimeout (line : Nat) : Statement (.replyTimeout line) := nothing rfl

theorem replyGapTimeout (line : Nat) : Statement (.replyGapTimeout line) := nothing rfl

theorem probeDue (term : TermId) : Statement (.probeDue term) := nothing rfl

theorem slowSweep (line : Nat) : Statement (.slowSweep line) := nothing rfl

theorem lineBreak (line : Nat) : Statement (.lineBreak line) := nothing rfl

theorem lineFaultCheck (line : Nat) (restored : Bool) : Statement (.lineFaultCheck line restored) := nothing rfl

theorem doorPresent (term : TermId) (serial : Serial) : Statement (.doorPresent term serial) := nothing rfl

theorem doorPrivacy (term : TermId) (on : Bool) : Statement (.doorPrivacy term on) := nothing rfl

theorem doorContact (term : TermId) (isOpen : Bool) : Statement (.doorContact term isOpen) := nothing rfl

theorem openAck (term : TermId) : Statement (.openAck term) := nothing rfl

theorem showAck (term : TermId) : Statement (.showAck term) := nothing rfl

theorem overrideWindowExpiry (term : TermId) : Statement (.overrideWindowExpiry term) := nothing rfl

theorem holdExpiry (term : TermId) : Statement (.holdExpiry term) := nothing rfl

theorem ajarExpiry (term : TermId) : Statement (.ajarExpiry term) := nothing rfl

theorem streakQuietExpiry (term : TermId) : Statement (.streakQuietExpiry term) := nothing rfl

theorem gatePresent (term : TermId) (serial : Serial) : Statement (.gatePresent term serial) := nothing rfl

theorem pacingTick (lane : Nat) : Statement (.pacingTick lane) := nothing rfl

theorem releaseAck (term : TermId) : Statement (.releaseAck term) := nothing rfl

theorem revokeAck (term : TermId) : Statement (.revokeAck term) := nothing rfl

theorem gatePassed (term : TermId) : Statement (.gatePassed term) := nothing rfl

theorem firstGateTimeout (lane : Nat) : Statement (.firstGateTimeout lane) := nothing rfl

theorem secondGateTimeout (lane : Nat) : Statement (.secondGateTimeout lane) := nothing rfl

theorem stopInputChange (input : StopInput) (asserted : Bool) : Statement (.stopInputChange input asserted) :=
  nothing rfl

theorem barPurchase (term : TermId) (serial : Serial) (lines : List OrderLine) : Statement (.barPurchase term serial lines) :=
  nothing rfl

theorem barKeyConfirm (term : TermId) : Statement (.barKeyConfirm term) := nothing rfl

theorem barKeyCancel (term : TermId) : Statement (.barKeyCancel term) := nothing rfl

theorem quoteExpiry (term : TermId) : Statement (.quoteExpiry term) := nothing rfl

theorem quoteAck (term : TermId) : Statement (.quoteAck term) := nothing rfl

theorem resultAck (term : TermId) : Statement (.resultAck term) := nothing rfl

theorem lossOfSupply : Statement .lossOfSupply := nothing rfl

end Sys2Proof.Laws.Form
end

