-- ==== Sys2Proof/Tests/Slice0.lean ====
section
/-! SUPPORT. The author's own checks: ill-formed commands that the form check refuses, values written out in the spec,
and for every statement with hypotheses concrete states that meet them, clause by clause. -/

open Sys2Proof Sys2Proof.Machine Sys2Proof.Claims

namespace Sys2Proof.Tests

/-! ## Ill-formed commands -/

theorem test_body_over_1020 : (Instr.cardSet 0 ⟨1021, none⟩).wellFormed = false := by
  simp [Instr.wellFormed, bodyOpen, bodyFits]
theorem test_fields_of_wrong_width : (Instr.cardRead 0 ⟨3, some 5⟩).wellFormed = false := by decide
theorem test_right_width_without_fields : (Instr.cardRead 0 ⟨2, none⟩).wellFormed = false := by decide
theorem test_number_past_two_bytes : (Instr.cardRead 0 ⟨2, some 65536⟩).wellFormed = false := by decide
theorem test_number_past_one_byte : (Instr.callSet 0 ⟨1, some 256⟩).wellFormed = false := by decide
theorem test_serial_of_five : (Instr.cardFind 0 ⟨11, some [1, 2, 3, 4, 5]⟩).wellFormed = false := by decide
theorem test_serial_presented_empty : (Instr.doorPresent ⟨1, 1⟩ []).wellFormed = false := by decide
theorem test_money_past_four_bytes :
    (Instr.accountSet 0 ⟨7, some ⟨1, some 2147483648, none, none, none⟩⟩).wellFormed = false := by decide
theorem test_minute_past_two_bytes :
    (Instr.cardSet 0 ⟨9, some ⟨1, none, none, some ⟨65536, 0⟩, none, none, none, none, none, none⟩⟩).wellFormed = false := by
  decide
theorem test_doors_past_two_bytes :
    (Instr.cardSet 0 ⟨9, some ⟨1, none, none, none, some [65536], none, none, none, none, none⟩⟩).wellFormed = false := by
  decide
theorem test_terminal_of_line_nine : (Instr.openAck ⟨9, 1⟩).wellFormed = false := by decide
theorem test_terminal_of_address_32 : (Instr.openAck ⟨1, 32⟩).wellFormed = false := by decide
theorem test_lane_zero : (Instr.pacingTick 0).wellFormed = false := by decide
theorem test_frame_past_its_longest :
    (Instr.fieldReply 1 (List.replicate 264 0)).wellFormed = false := by
  simp only [Instr.wellFormed, List.length_replicate]
  decide
theorem test_kind_that_names_a_request : (Instr.unknownKindRequest 0 0x10 0).wellFormed = false := by decide
theorem test_binding_code_assigned :
    (Instr.termBind 0 ⟨3, some ⟨⟨1, 1⟩, .unassigned 4⟩⟩).wellFormed = false := by decide
theorem test_terminal_byte_past_255 : (Instr.termEnable 0 ⟨2, some ⟨256, 1⟩⟩).wellFormed = false := by decide
theorem test_order_line_past_one_byte :
    (Instr.barPurchase ⟨1, 1⟩ [1, 2, 3, 4] [⟨1, 256⟩]).wellFormed = false := by decide

/-! ## Values the spec writes out -/

/-- The check over nine characters, as R172 gives it. -/
theorem test_check_of_digits : crc [0x31, 0x32, 0x33, 0x34, 0x35, 0x36, 0x37, 0x38, 0x39] = 0x29B1#16 := by
  decide +kernel

/-- The rounding examples of R123. -/
theorem test_half_up : halfUp 2105 1000 = 211 ∧ halfUp 2100 1000 = 210 ∧ halfUp 1 5000 = 1 := by decide

/-! ## A small ship -/

/-- A guest of account 1 whose cabin is door 101. -/
def guest : Card :=
  { Card.fresh .guest [1, 1, 1, 1] with
    doors := [101], account := 1, adult := true, package := .standard, drinkCap := 500, dailyCap := 5, drinksUsed := 1 }

/-- A guest ASHORE on trip 2, with a conflict. -/
def ashoreGuest : Card :=
  { Card.fresh .guest [2, 2, 2, 2] with
    account := 1, presence := .ashore, trip := 2, conflict := some .ashoreUse }

/-- A security card. -/
def security (x : Serial) : Card := { Card.fresh .crew x with role := some .security }

/-- An attendant of section 1, on shift from 08:00 to 17:00. -/
def attendant : Card :=
  { Card.fresh .crew [5, 5, 5, 5] with role := some .attendant, sect := some 1, window := some ⟨480, 1020⟩ }

/-- A LOST guest ASHORE without a trip. -/
def lost : Card := { Card.fresh .guest [7, 7, 7, 7] with status := .lost, presence := .ashore }

/-- A terminal ONLINE. -/
def online (b : Binding) : Terminal :=
  { Terminal.initial with binding := b, enabled := true, online := .online, toggle := some true }

/-- The terminal of line 1 at an address. -/
def at1 (a : Nat) : TermId := ⟨1, a⟩

/-- Account 1. -/
def account : Account :=
  { balance := 0, limit := 100000, allowance := 50000, pending := 0, held := 0, discount := 1000, warning := false }

/-- A part in use: records 0 to 6, a trip LOADING on lane 1 and one AFLOAT, lane 1 SINGLE and OUT, lane 2 DOUBLE and
inward, and on line 1 a door, a bar, three gates, an unbound terminal and a DISABLED one. -/
def ship : State :=
  { State.reset with
    now := 100000
    register :=
      { cards :=
          [(0, guest), (1, security [3, 3, 3, 3]), (2, Card.fresh .master [4, 4, 4, 4]), (3, ashoreGuest),
            (4, attendant), (5, security [6, 6, 6, 6]), (6, lost)]
        index :=
          [([1, 1, 1, 1], 0), ([3, 3, 3, 3], 1), ([4, 4, 4, 4], 2), ([2, 2, 2, 2], 3), ([5, 5, 5, 5], 4),
            ([6, 6, 6, 6], 5), ([7, 7, 7, 7], 6)]
        withdrawn := [[9, 9, 9, 9]] }
    presence :=
      { PresenceUnit.initial with
        aboard := 4, ashore := 2, conflicts := 1
        trips :=
          [(1, { boat := 1, capacity := 2, lane := 1, state := .loading, manifest := [] }),
            (2, { boat := 2, capacity := 4, lane := 0, state := .afloat
                  manifest := [{ record := 3, time := none, returned := false, byCorrection := false }] })] }
    lanes :=
      [(1, { Lane.initial with first := some (at1 3), trip := 1, stopLinked := some .stopA }),
        (2, { Lane.initial with
              direction := .inward, chain := .double, first := some (at1 4), second := some (at1 5), pacing := 300 })]
    doors :=
      { records := [(33, Door.initial 101 1)]
        settings := { DoorSettings.initial with streakThreshold := 3, filterCount := 2 } }
    store :=
      { accounts := [(1, account)]
        items :=
          [(1, { price := 600, category := .beerWine, adultOnly := true, active := true }),
            (2, { price := 250, category := .soft, adultOnly := false, active := false })]
        outlets := [(1, { rate := 1000, ceiling := 10000, honoured := true, timeout := 60 })] }
    slots := [(34, { outlet := 1, quote := none, waiting := none })]
    field :=
      { lines := [(1, { Line.initial with enabled := true, slowPermitted := true, state := .running })]
        terms :=
          [(33, online (.door 101 1)), (34, online (.bar 1)), (35, online (.gateFirst 1)), (36, online (.gateFirst 2)),
            (37, online (.gateSecond 2)), (38, online .unbound)] }
    link := { Link.initial with rx := .hunting }
    clock := some ⟨10, 36000⟩
    startup := { State.reset.startup with loss := ⟨false, false, false, false, false⟩ } }

theorem test_ship_is_safe : Safe ship := ⟨by decide, by decide, by decide, by decide⟩

/-- The ship with another link. -/
def linked (f : Link → Link) : State := { ship with link := f ship.link }

/-- The ship with another door record. -/
def doored (f : Door → Door) : State := ship.setDoor (at1 1) (f (Door.initial 101 1))

/-- The ship with another terminal record at an address of line 1. -/
def termed (a : Nat) (f : Terminal → Terminal) (s : State := ship) : State := s.setTerm (at1 a) (f (s.term (at1 a)))

/-- The ship with another lane. -/
def laned (n : Nat) (f : Lane → Lane) (s : State := ship) : State := s.setLane n (f (s.lane n))

/-- The ship with another card. -/
def carded (n : Nat) (c : Card) (s : State := ship) : State := s.setCard n c

/-- The warning's band of R99 at a limit of 300,000. -/
theorem test_warning_band :
    let a : Account := { account with limit := 300000 }
    ({ a with balance := 269999 } : Account).evaluated = false ∧ ({ a with balance := 270000 } : Account).evaluated = true ∧
      ({ a with balance := 240000, warning := true } : Account).evaluated = true ∧
      ({ a with balance := 239999, warning := true } : Account).evaluated = false := by decide

/-! ## Single commands on the ship -/

/-- What a command leaves, looked at through f. -/
def after {α : Type} (i : Instr) (s : State) (f : State → α) : Option α :=
  match exec i s with
  | .next u => some (f u)
  | .fault _ => none
  | .refused _ => none

/-- R14: with records 0 to 6 in use but 4 vacated, the next card takes record 4. -/
theorem test_issue_takes_vacated_record :
    after (.cardIssue 7 ⟨12, some (bareIssue 3 [8, 8, 8, 8])⟩)
      { ship with
        register :=
          { ship.register with
            cards := ship.register.cards.erase 4, index := ship.register.index.filter (fun e => e.2 ≠ 4) } }
      (fun u => (u.card? 4).map (·.kind)) = some (some .master) := by decide +kernel

/-- R81: at 10:00 the attendant of the section is on shift. -/
theorem test_attendant_opens :
    after (.doorPresent (at1 1) [5, 5, 5, 5]) ship (fun u => (u.term (at1 1)).outstanding) = some (some .openLock) := by
  decide +kernel

/-- R81: the minute the window ends is outside it. -/
theorem test_attendant_after_shift :
    after (.doorPresent (at1 1) [5, 5, 5, 5]) { ship with clock := some ⟨10, 61200⟩ }
      (fun u => (u.term (at1 1)).outstanding) = some (some (.show .notPermitted)) := by decide +kernel

/-- R122 to R124: a covered unit at 600 with a cap of 500 costs 100, less 10 %, plus 10 % service. -/
theorem test_purchase_priced :
    after (.barPurchase (at1 2) [1, 1, 1, 1] [⟨1, 1⟩]) ship (fun u => (u.term (at1 2)).outstanding) =
      some (some (.quote 99 9 1)) := by decide +kernel

/-- R52: a pacing period of 1 ms is stored as 300, timeouts of 1 s and 255 s as 5 and 60. -/
theorem test_lane_settings_clamped :
    after (.laneSet 0 ⟨9, some ⟨8, 1, 1, 0, 1, 1, 255, 0⟩⟩) ship
      (fun u => ((u.lane 8).pacing, (u.lane 8).firstTimeout, (u.lane 8).secondTimeout)) = some (300, 5, 60) := by
  decide +kernel

/-- R42: a plain SAIL with a trip LOADING is refused STATE. -/
theorem test_sail_refused_while_loading :
    after (.sail 0 ⟨1, some 0⟩) ship (fun u => u.link.replies.map (·.status)) = some [.wrongState] := by decide +kernel

/-! ## States that meet the statements' hypotheses -/

/-- A number among those of a table has a record. -/
theorem find_isSome_of_mem {α : Type} (t : Table α) (n : Nat) (h : n ∈ t.map (·.1)) : (t.find n).isSome := by
  induction t with
  | nil => cases h
  | cons p t ih =>
    obtain ⟨k, v⟩ := p
    by_cases e : k = n
    · simp [Table.find, e]
    · simp only [List.map_cons, List.mem_cons] at h
      simp only [Table.find, e, ite_false]
      exact ih (h.resolve_left (fun q => e q.symm))

/-- A record that a table answers is listed. -/
theorem find_mem {α : Type} (t : Table α) (n : Nat) (v : α) (h : t.find n = some v) : (n, v) ∈ t := by
  induction t with
  | nil => cases h
  | cons p t ih =>
    obtain ⟨k, w⟩ := p
    by_cases e : k = n
    · simp only [Table.find, e, ite_true, Option.some.injEq] at h
      simp [e, h]
    · simp only [Table.find, e, ite_false] at h
      exact List.mem_cons_of_mem _ (ih h)

/-- A lane's passage is that of a listed lane. -/
theorem lane_mem (s : State) (n : Nat) (p : Passage) (h : (s.lane n).passage = some p) :
    ∃ l, (n, l) ∈ s.lanes ∧ l.passage = some p := by
  unfold State.lane Table.look at h
  cases hl : s.lanes.find n with
  | none =>
    rw [hl] at h
    cases h
  | some l =>
    rw [hl] at h
    exact ⟨l, find_mem _ _ _ hl, h⟩

theorem witness_StepRunsFrontCommand :
    ({ ship with pending := [.clockSecond, .hostPause] } : State).pending = .clockSecond :: [.hostPause] := rfl

theorem witness_EmptyQueueAndUnpoweredSteps :
    let settled : Stops := ⟨⟨false, some false⟩, ⟨true, some true⟩⟩
    let pins : Pins := { ship.pins with stopB := true }
    (ship.pending = [] ∧ ({ ship with powered := false } : State).powered = false) ∧
      (ship.powered = true ∧ (ship.now + 1) % 10 ≠ 0) ∧
      (({ ship with now := 9, pins, stops := settled } : State).stops.stopB = ⟨pins.stopB, some pins.stopB⟩ ∧
        (9 + 1) % 10 = 0) ∧
      ∀ fails straps, Instr.lossOfSupply ≠ .powerOn fails straps := by
  refine ⟨by decide, by decide, by decide, ?_⟩
  intro _ _ h
  cases h

/-- The guest's passage out with trip 1. -/
def outward (state : PassageState) (placed : Bool) (expiry : Option Nat := none) : Passage :=
  { card := 0, grantTime := 99000, direction := .out, trip := 1, state, expiry, releasePlaced := placed }

/-- Lane 1 with the guest's passage. -/
def passing (state : PassageState) (placed : Bool) (expiry : Option Nat := none) : State :=
  carded 0 { guest with passage := some 1 }
    (laned 1 (fun l => { l with passage := some (outward state placed expiry) }))

/-- Lane 2 with a passage of the guest ASHORE on trip 2. -/
def returning (state : PassageState) (placed : Bool) (expiry : Option Nat := none) : State :=
  carded 3 { ashoreGuest with passage := some 2 }
    (laned 2 (fun l =>
      { l with
        passage := some
          { card := 3, grantTime := 99000, direction := .inward, trip := 0, state, expiry, releasePlaced := placed } }))

/-- The quote open at the bar. -/
def quote : Quote :=
  { card := 0, account := 1, outlet := 1, lines := [⟨1, 2, 2, 180⟩], subtotal := 180, service := 18, total := 198
    drinks := 2, expiry := 160000, shown := true }

/-- The ship with the guest's quote open at the bar. -/
def quoted (q : Quote := quote) (waiting : Option Command := none) : State :=
  { carded 0 { guest with quote := some (at1 2), drinksHeld := 2 } with
    store := { ship.store with accounts := [(1, { account with held := 198 })] }
    posting := { ship.posting with reserved := 1 }
    slots := [(34, { outlet := 1, quote := some q, waiting })] }

theorem witness_StartsKeepIntactGroups :
    Canonical (quoted) ∧ Canonical (passing .firstReleased true (some 101000)) ∧ (quoted).powered = true := by decide

theorem witness_LossOfSupplyStopsPart : (quoted).powered = true ∧ Canonical (quoted) := by decide

/-- CARD-ISSUE of a guest. -/
def issueGuest (x : Serial) (account : Nat) : CardIssueReq :=
  { kind := 1, serial := x, role := none, sect := none, window := none, doors := some [1, 101, 9999]
    account := some account, adult := some 1, package := some Package.premium.num, drinkCap := some 5000
    dailyCap := some 30 }

/-- CARD-ISSUE of a crew card. -/
def issueCrew (role : Role) (sect : Option Nat) (window : Option Window) : CardIssueReq :=
  { kind := 2, serial := [8, 8, 8, 8], role := some role.num, sect, window, doors := some [], account := none
    adult := none, package := none, drinkCap := none, dailyCap := none }

/-- A guest's record as issued. -/
def newGuest (x : Serial) (account : Nat) : Card :=
  { Card.fresh .guest x with
    doors := [1, 101, 9999], account, adult := true, package := .premium, drinkCap := 5000, dailyCap := 30 }

theorem issues_guest (x : Serial) (account : Nat) (hx : SerialLength x) (ha : account ≤ 512) :
    IssuesCard (issueGuest x account) (newGuest x account) := by
  refine ⟨hx, .inl ⟨[1, 101, 9999], account, true, .premium, 5000, 30, rfl, rfl, rfl, rfl, rfl, rfl, rfl, ?_, ha, ?_, ?_,
    rfl⟩⟩ <;> decide

/-- A register with every record in use. -/
def fullShip : State :=
  { ship with register := { ship.register with cards := (List.range 1024).map (fun n => (n, guest)) } }

theorem witness_CardIssueTakesLowestVacant :
    Ready ship 30 ∧ IssuesCard (issueGuest [8, 8, 8, 8] 512) (newGuest [8, 8, 8, 8] 512) ∧ ship.account? 512 = none ∧
      IssuesCard (issueGuest [1, 1, 1, 1] 1) (newGuest [1, 1, 1, 1] 1) ∧ ¬ NotIndexed ship [1, 1, 1, 1] ∧
      (ship.account? 1).isSome ∧ IssuesCard (issueGuest [9, 9, 9, 9] 0) (newGuest [9, 9, 9, 9] 0) ∧
      NotIndexed ship [9, 9, 9, 9] ∧ ship.card? 7 = none ∧ (∀ m, m < 7 → (ship.card? m).isSome) ∧
      Ready fullShip 30 ∧ NotIndexed fullShip [8, 8, 8, 8] ∧ (∀ m, m < 1024 → (fullShip.card? m).isSome) ∧
      IssuesCard (issueCrew .attendant (some 63) (some ⟨1439, 0⟩))
        { Card.fresh .crew [8, 8, 8, 8] with role := some .attendant, sect := some 63, window := some ⟨1439, 0⟩ } ∧
      IssuesCard (issueCrew .security none none) (security [8, 8, 8, 8]) ∧
      IssuesCard { issueCrew .other none none with kind := 3 } (Card.fresh .master [8, 8, 8, 8]) := by
  refine ⟨by decide, issues_guest _ _ (by decide) (by decide), by decide, issues_guest _ _ (by decide) (by decide),
    by decide, by decide, issues_guest _ _ (by decide) (by decide), by decide, by decide, by decide, by decide, by decide,
    ?_, ⟨by decide, .inr (.inl ⟨[], 63, ⟨1439, 0⟩, ?_⟩)⟩, ⟨by decide, .inr (.inr (.inl ⟨[], .security, ?_⟩))⟩,
    ⟨by decide, .inr (.inr (.inr ⟨rfl, rfl⟩))⟩⟩
  · intro m h
    exact find_isSome_of_mem _ _ (by simp [fullShip, h])
  · decide
  · decide

theorem witness_CardReissueSwapsSerials :
    Ready ship 13 ∧ SerialLength [9, 9, 9, 9] ∧ ship.card? 0 = some guest ∧ NotIndexed ship [9, 9, 9, 9] ∧
      guest.quote = none ∧ guest.passage = none := by decide

theorem witness_CardReissueSwapsSerials_released :
    let s := passing .firstSending true
    Ready s 13 ∧ s.card? 0 = some { guest with passage := some 1 } ∧ NotIndexed s [8, 8, 8, 8, 8, 8, 8] ∧
      ∀ n p, some 1 = some n → (s.lane n).passage = some p → p.state ≠ .waitingPace := by
  refine ⟨by decide, by decide, by decide, ?_⟩
  rintro _ p ⟨⟩ h
  have e : ((passing .firstSending true).lane 1).passage = some (outward .firstSending true) := by decide
  rw [e] at h
  cases h
  decide

theorem witness_CardStatusWritesStatus :
    Ready ship 3 ∧ ship.card? 6 = some lost ∧ ship.card? 0 = some guest ∧ guest.quote = none ∧
      ∀ n p, guest.passage = some n → (ship.lane n).passage = some p → p.state ≠ .waitingPace :=
  ⟨by decide, by decide, by decide, by decide, fun _ _ h => by cases h⟩

theorem witness_CardStatusEndsWorkInFlight :
    let s := passing .waitingPace false
    (Ready s 3 ∧ s.card? 0 = some { guest with passage := some 1 } ∧
      ((s.lane 1).passage.map (fun p => (p.card, p.state))) = some (0, .waitingPace)) ∧
      Ready (quoted) 3 ∧ (quoted).card? 0 = some { guest with quote := some (at1 2), drinksHeld := 2 } ∧
      validTerm (at1 2) = true ∧ (quoted).slot? (at1 2) = some { outlet := 1, quote := some quote, waiting := none } ∧
      (quoted).account? 1 = some { account with held := 198 } ∧ ((quoted).term (at1 2)).online = .online ∧
      ((quoted).term (at1 2)).outstanding = none ∧
      ((quoted quote (some (.quote 198 18 2))).slot? (at1 2)).map (·.waiting) = some (some (.quote 198 18 2)) := by
  decide

/-- CARD-SET of a guest's fields. -/
def setGuest : CardSetReq :=
  { record := 0, role := none, sect := none, window := none, doors := some [], account := some 0, adult := some 0
    package := some Package.premium.num, drinkCap := some 5000, dailyCap := some 0 }

/-- CARD-SET of a crew card's fields. -/
def setCrew (record : Nat) (role : Option Nat) : CardSetReq :=
  { record, role, sect := some 63, window := some ⟨1439, 0⟩, doors := some [9999], account := none, adult := none
    package := none, drinkCap := none, dailyCap := none }

theorem witness_CardSetWritesPresentFields :
    (Ready ship 30 ∧ ship.card? 0 = some guest ∧ guest.kind = .guest ∧ guest.quote = none ∧
      (guest.role = none ∧ guest.sect = none ∧ guest.window = none) ∧
      setGuest.adult = (some false).map (fun b => if b then 1 else 0) ∧
      setGuest.package = (some Package.premium).map Package.num ∧ setGuest.drinkCap = (some 5000).map Int.ofNat) ∧
      (Ready (quoted) 30 ∧ ((quoted).card? 0).map (·.quote) = some (some (at1 2)) ∧
        setGuest.account = some 0 ∧ 0 ≠ guest.account) ∧
      (ship.card? 4 = some attendant ∧ (setCrew 4 (some 2)).role = (some Role.security).map Role.num) ∧
      (ship.card? 1 = some (security [3, 3, 3, 3]) ∧
        (setCrew 1 (some 1)).sect.isSome ∧ (setCrew 1 (some 1)).window.isSome) ∧
      ship.card? 2 = some (Card.fresh .master [4, 4, 4, 4]) := by decide

/-- The ship in SAILING. -/
def sailing : State :=
  { ship with presence := { ship.presence with call := .sailing, leftBehind := [3, 6] } }

/-- The one entry of trip 2, marked returned. -/
def marked (byCorrection : Bool) : List ManifestEntry :=
  [{ record := 3, time := none, returned := true, byCorrection }]

theorem marks (byCorrection : Bool) :
    MarksReturned 3 byCorrection [{ record := 3, time := none, returned := false, byCorrection := false }]
      (marked byCorrection) :=
  ⟨[], { record := 3, time := none, returned := false, byCorrection := false }, [], rfl, rfl, rfl,
    (fun _ h => nomatch h), rfl⟩

theorem witness_CardVacateFreesRecord :
    (Ready (quoted) 2 ∧ (((quoted).card? 0).map (fun c => c.quote.isSome)) = some true) ∧ Ready ship 2 ∧
      ship.card? 2 = some (Card.fresh .master [4, 4, 4, 4]) ∧ ship.card? 0 = some guest ∧
      (ship.card? 3 = some ashoreGuest ∧ ship.presence.call ≠ .sailing) ∧ Ready sailing 2 ∧
      (sailing.card? 6 = some lost ∧ lost.presence = .ashore ∧ lost.trip = 0 ∧ sailing.presence.call = .sailing) ∧
      sailing.card? 3 = some ashoreGuest ∧ (sailing.trip? 2).isSome ∧
      MarksReturned 3 true [{ record := 3, time := none, returned := false, byCorrection := false }] (marked true) :=
  ⟨by decide, by decide, by decide, by decide, by decide, by decide, by decide, by decide, by decide, marks true⟩

theorem witness_CardReadAndFindReport :
    Ready ship 11 ∧ ship.card? 1023 = none ∧ ship.card? 0 = some guest ∧ ship.card? 4 = some attendant ∧
      ship.card? 2 = some (Card.fresh .master [4, 4, 4, 4]) ∧ Indexed ship ∧
      (([1, 1, 1, 1], 0) ∈ ship.register.index) ∧ NotIndexed ship [9, 9, 9, 9] ∧ ¬ SerialLength [1, 2, 3, 4, 5] := by
  decide

theorem witness_PresenceSetAndConflictClear :
    let clear := carded 3 { ashoreGuest with conflict := none }
    Ready ship 3 ∧ (ship.card? 0 = some guest ∧ guest.presence = .aboard ∧ guest.conflict = none) ∧
      (sailing.card? 0 = some guest ∧ sailing.presence.call = .sailing) ∧
      (ship.card? 6 = some lost ∧ lost.presence = .ashore ∧ lost.trip = 0) ∧
      (Ready clear 3 ∧ clear.card? 3 = some { ashoreGuest with conflict := none } ∧ (clear.trip? 2).isSome) ∧
      (ship.card? 3 = some ashoreGuest ∧ ashoreGuest.conflict.isSome ∧ ashoreGuest.passage = none) ∧
      (carded 0 { guest with conflict := some .missedReturn }).card? 0 =
        some { guest with conflict := some .missedReturn } := by decide

theorem witness_PresenceSetAndConflictClear_manifest :
    MarksReturned 3 true [{ record := 3, time := none, returned := false, byCorrection := false }] (marked true) :=
  marks true

theorem witness_PresenceReadsChangeNothing :
    Ready ship 2 ∧ ((ship.trip? 2).map (fun t => t.manifest.length)) = some 1 ∧
      ship.presence.leftBehind.length = 0 ∧ Ready sailing 2 ∧ sailing.presence.leftBehind.length = 2 := by decide

/-- Twenty-four boats can be in use; here one, so trip 255 can open on lane 8. -/
theorem witness_TripOpensSailsAndClears :
    (Ready ship 4 ∧ ship.presence.call = .callOpen ∧ ship.trip? 255 = none ∧ ship.presence.trips.length < 24 ∧
      (ship.presence.trips.map (fun p => p.2.capacity)).sum + 150 ≤ 1536 ∧ (ship.lane 8).trip = 0 ∧
      (ship.lane 8).passage = none) ∧
      ((ship.trip? 1).map (·.state) = some .loading ∧ (ship.lane 1).passage = none) ∧
      (ship.trip? 2).map (·.state) = some .afloat ∧
      (Canonical (ship.setTrip 2 { boat := 2, capacity := 4, lane := 0, state := .complete, manifest := [] }) ∧
        ((ship.setTrip 2 { boat := 2, capacity := 4, lane := 0, state := .complete, manifest := [] }).trip? 2).map
          (·.state) = some .complete) ∧
      (((passing .firstSending true).trip? 1).map (·.lane) = some 1 ∧
        ((passing .firstSending true).lane 1).passage.isSome) := by decide

theorem witness_CallStateGovernsSailing :
    let quiet := { ship with presence := { ship.presence with trips := [] } }
    (Ready quiet 1 ∧ quiet.presence.call ≠ .sailing ∧ (∀ p ∈ quiet.presence.trips, p.2.state ≠ .loading) ∧
      0 < quiet.presence.ashore) ∧
      (Ready State.reset 1 ∧ State.reset.presence.ashore = 0 ∧ State.reset.presence.conflicts = 0) ∧
      0 < ({ State.reset with presence := { State.reset.presence with conflicts := 1 } } : State).presence.conflicts ∧
      ((passing .firstSending true).lane 1).passage.isSome ∧ (Ready sailing 1 ∧ sailing.presence.call = .sailing) := by
  decide

theorem witness_CallStateGovernsSailing_lanes : ∀ n, 1 ≤ n → n ≤ 8 → (ship.lane n).passage = none := by
  intro n _ h8
  have all : ∀ k, k < 9 → (ship.lane k).passage = none := by decide
  exact all n (by omega)

theorem witness_LaneSettingsStoredAndRead :
    Ready ship 9 ∧ (ship.lane 8).passage = none ∧ ((passing .firstSending true).lane 1).passage.isSome ∧
      (∃ p ∈ ship.field.terms, p.2.binding = .gateSecond 2) ∧
      (∀ p ∈ ship.field.terms, p.2.binding ≠ .gateSecond 1) := by decide

theorem witness_DoorSettingsAndDoorRead :
    Ready ship 10 ∧ (∀ p ∈ ship.doors.records, p.2.number ≠ 9999) ∧
      ship.door? (at1 1) = some (Door.initial 101 1) ∧
      (∀ p ∈ ship.doors.records, p.2.number = 101 → p = (termKey (at1 1), Door.initial 101 1)) := by decide

theorem witness_DoorOpenActsAsMaster :
    Ready ship 2 ∧ ship.door? (at1 1) = some (Door.initial 101 1) ∧
      (∀ p ∈ ship.doors.records, p.2.number = 101 → p = (termKey (at1 1), Door.initial 101 1)) ∧
      ((ship.term (at1 1)).online = .online ∧ (ship.term (at1 1)).outstanding = none) ∧
      ((termed 1 (fun x => { x with online := .offline })).term (at1 1)).online ≠ .online ∧
      ((termed 1 (fun x => { x with outstanding := some .openLock })).term (at1 1)).outstanding.isSome := by decide

theorem witness_AccountSetCloseAndRead :
    Ready ship 17 ∧ ship.account? 512 = none ∧ ship.account? 1 = some account ∧
      (-10000000 : Int) ≤ -10000000 ∧ (quoted).account? 1 = some { account with held := 198 } ∧
      (∃ p ∈ ship.register.cards, p.2.account = 1) ∧
      (∀ p ∈ State.reset.register.cards, p.2.account ≠ 512) := by decide

theorem witness_TariffStoredReadAndRolled :
    Ready ship 10 ∧ ship.item? 1023 = none ∧ (ship.item? 1).isSome := by decide

/-- A charge record of 12 lines. -/
def charge (sequence : Nat) : Charge :=
  { sequence, account := 1, card := 0, outlet := 1, terminal := at1 2, time := none
    lines := List.replicate 12 ⟨1, 1, 0, 540⟩, subtotal := 6480, service := 648, total := 7128, drinks := 0 }

/-- The ship with two charge records, the numbering just gone round. -/
def owed : State :=
  { ship with
    posting := { ship.posting with committed := [charge 4294967295, charge 1], lastSeq := 1, high := true } }

theorem witness_PostingQueueReadAndPosted :
    Ready owed 4 ∧ owed.posting.lastSeq ≠ 0 ∧ stepsBack 4294967295 1 = 1 ∧ stepsBack 4294967295 1 < 2 ∧
      (2 ≤ stepsBack 4294967294 1 ∧ stepsBack 4294967294 1 ≤ 2147483647) ∧ 2147483647 < stepsBack 2 1 ∧
      ship.posting.lastSeq = 0 := by decide

/-- The ship with line 1 in another state. -/
def lined (v : LineState) (s : State := ship) : State := s.setLine 1 { s.line 1 with state := v }

theorem witness_LineSetAndRead :
    Ready ship 4 ∧ LineRate.b38400 ≠ (ship.line 1).rate ∧
      ((ship.term ⟨1, 1⟩).online ≠ .disabled) ∧ ((ship.line 8).enabled = false) ∧
      ((∀ v : LineRate, 0 ≠ v.num) ∧ ∀ v : LineRate, 5 ≠ v.num) := by
  refine ⟨by decide, by decide, by decide, by decide, ?_, ?_⟩ <;> intro v <;> cases v <;> decide

/-- An accepted LINE-SET that enables line 8, one that ends SLOW on line 1, and one that leaves it with a poll in progress. -/
theorem witness_LineSetAndRead_accepted :
    ((∀ a, a < 32 → (ship.term ⟨8, a⟩).online = .disabled) ∧ (lineSetTo (ship.line 8) .b115200 true false).exchange = none ∧
      (lineSetTo (ship.line 8) .b115200 true false).state = .running) ∧
      (Ready (lined .slow) 4 ∧ (lineSetTo ((lined .slow).line 1) .b19200 true false).exchange = none ∧
        (lineSetTo ((lined .slow).line 1) .b19200 true false).state = .running) ∧
      (lineSetTo (((ship.setLine 1 { ship.line 1 with
        exchange := some { addr := 6, command := none, toggle := true, ack := false, ackValid := false, stale := false } }).line 1))
          .b19200 true true).exchange.isSome := by decide

/-- R150: SLOW no longer permitted, the line is in RUNNING and chooses at once; enabled, line 8 is in RUNNING and has none to
poll. -/
theorem test_line_set_ends_slow :
    after (.lineSet 0 ⟨4, some ⟨1, 1, 1, 0⟩⟩) (lined .slow) (fun u => ((u.line 1).state, (u.line 1).exchange.map (·.addr))) =
      some (.running, some 1) ∧
      after (.lineSet 0 ⟨4, some ⟨8, 4, 1, 0⟩⟩) ship (fun u => ((u.line 8).state, (u.line 8).exchange)) = some (.running, none) := by
  decide +kernel

theorem witness_TermBindEnableAndRead :
    (Ready ship 5 ∧ TermInRange (at1 31) ∧ BindingInRange (.door 9999 63) ∧
      (ship.term (at1 31)).online = .disabled ∧ (ship.term (at1 1)).online ≠ .disabled ∧
      (ship.line 1).enabled = true ∧ (ship.line 8).enabled = false ∧ ¬ TermInRange ⟨9, 1⟩ ∧ ¬ TermInRange ⟨1, 32⟩) := by
  refine ⟨by decide, by decide, ?_, by decide⟩
  exact ⟨by decide, by decide, by decide⟩

theorem witness_TermBindEnableAndRead_refused :
    BindingRefused (at1 31) (.door 101 0) .alreadyExists ship ∧
      BindingRefused (at1 31) (.gateSecond 1) .wrongState ship ∧
      ∀ c, ¬ BindingRefused (at1 31) (.bar 16) c ship := by
  refine ⟨⟨rfl, (33, online (.door 101 1)), by decide, by decide, 1, rfl⟩, .inr ⟨rfl, ?_, by decide⟩, fun _ h => h⟩
  intro g h
  have : (ship.lane 1).second = none := by decide
  rw [this] at h
  cases h

/-- Line 1 with a poll of an address in progress. -/
def polled (a : Nat) (s : State := ship) : State :=
  s.setLine 1
    { s.line 1 with
      exchange := some { addr := a, command := none, toggle := true, ack := false, ackValid := false, stale := false } }

theorem witness_DisableAbandonsWork :
    let hostOpen := termed 1 (fun x => { x with outstanding := some .openLock }) (doored (fun d => { d with hostOpen := true }))
    Ready ship 2 ∧ TermInRange (at1 6) ∧ (ship.term (at1 31)).online = .disabled ∧
      ((termed 6 (fun x => { x with online := .offline })).term (at1 6)).online = .offline ∧
      ((ship.term (at1 6)).online = .online ∧ (ship.term (at1 6)).binding = .unbound ∧ (ship.line 1).exchange = none) ∧
      (ship.term (at1 1)).binding = .door 101 1 ∧ (ship.door? (at1 1)).isSome ∧
      ((hostOpen.term (at1 1)).outstanding = some .openLock ∧
        (hostOpen.door? (at1 1)).map (·.hostOpen) = some true) ∧
      ((termed 1 (fun x => { x with outstanding := some .openLock })).door? (at1 1)).map (·.hostOpen) = some false ∧
      ((ship.term (at1 2)).binding = .bar 1 ∧ (ship.slot? (at1 2)).map (·.quote) = some none) ∧
      ((quoted).slot? (at1 2)).map (·.quote) = some (some quote) ∧
      ((passing .waitingPace false).lane 1).passage.isSome ∧ (ship.term (at1 3)).binding = .gateFirst 1 ∧
      ((passing .firstReleased true).lane 1).passage.isSome ∧
      ((returning .secondSending true).lane 2).passage.isSome ∧ (ship.term (at1 5)).binding = .gateSecond 2 ∧
      ((returning .firstSending true).card? 3).map (·.kind) = some .guest := by decide

/-- A notice queue of 64 notices of one level. -/
def crowded (level : Nat) : State :=
  { ship with
    notices :=
      { ship.notices with queue := List.replicate 64 { name := .start, level, time := none, content := [] } } }

theorem witness_NoticesAndEntriesJoin :
    (let silent := { ship with notices := { ship.notices with levels := { NoticeLevels.initial with charge := 0 } } };
      silent.notices.levels.get NoticeName.warningSet.cls = 0) ∧
      (ship.notices.levels.get NoticeName.warningSet.cls = 1 ∧ ship.notices.queue.length < 64) ∧
      (64 ≤ (crowded 2).notices.queue.length ∧ ∀ m ∈ (crowded 2).notices.queue, 1 < m.level) ∧
      ((crowded 1).notices.queue.head?.map (·.level) = some 1) ∧ ship.log.entries.length + 1 < 1792 ∧
      ship.log.mode = .wrap := by decide

/-- An entry for a long log. -/
def entry : LogEntry := { time := none, kind := .ajar, term := none, record := none, outcome := none, details := [] }

theorem witness_NoticesAndEntriesJoin_log :
    (List.replicate 1791 entry).length + 1 = 1792 ∧ (List.replicate 2048 entry).length = 2048 ∧
      AuditLog.initial.fired = false :=
  ⟨by rw [List.length_replicate], List.length_replicate, rfl⟩

theorem witness_LogModeAndRead : Ready ship 1 := by decide

theorem witness_PartRequestsServed :
    Ready ship 5 ∧ 86399 ≤ 86399 ∧ 86399 < 86400 ∧ ship.powered = true ∧ ship.clock = some ⟨10, 36000⟩ ∧
      State.reset.clock = none ∧ ({ ship with clock := some ⟨65535, 86399⟩ } : State).clock = some ⟨65535, 86399⟩ := by
  decide

/-- Eight replies that wait. -/
def busyLink : State :=
  linked (fun k => { k with replies := List.replicate 8 { kind := 0x22, tag := 0, status := .ok, body := [] } })

theorem witness_RequestsAnsweredOrWait :
    Ready ship 1020 ∧ (busyLink.link.fill + 7 ≤ 2048 ∧ 8 ≤ busyLink.link.replies.length) ∧
      (linked (fun k => { k with resetWaiting := true })).link.resetWaiting = true ∧
      (let s := linked (fun k =>
          { k with
            frames := [{ size := 7, tag := 5, req := .countRead ⟨0, some ()⟩ }]
            replies := List.replicate 8 { kind := 0x22, tag := 0, status := .ok, body := [] } });
        s.link.flow = .flowOpen ∧ s.link.replies.tail.length < 8 ∧ requestLength (.countRead ⟨0, some ()⟩) = 0) := by
  decide

theorem witness_ReceiverTakesBytes :
    (linked (fun k => { k with rx := .waitIdle })).link.rx = .waitIdle ∧
      (ship.link.rx = .hunting ∧ ship.link.rxBytes = [] ∧ ship.link.fill < 2048) ∧
      (let s := linked (fun k => { k with rx := .receiving, rxBytes := [0xA5, 0xFC] });
        3 ≤ (s.link.rxBytes ++ [0x03]).length ∧ leNat (((s.link.rxBytes ++ [0x03]).drop 1).take 2) = 1020) ∧
      (let s := linked (fun k => { k with rx := .receiving, rxBytes := [0xA5, 0xFD] });
        leNat (((s.link.rxBytes ++ [0x03]).drop 1).take 2) = 1021) ∧
      (let bs : List Byte := [0xA5, 0, 0, 1, 0x22, 0] ++ [0];
        bs.length = 7 ∧ bs.drop 5 ≠ crcBytes ((bs.drop 1).take 4)) ∧
      ship.link.fill + 7 ≤ 2048 := by decide +kernel

theorem witness_ReceiverTakesBytes_full :
    (linked (fun k => { k with rx := .receiving, rxBytes := List.replicate 2048 0 })).link.rxBytes.length = 2048 :=
  List.length_replicate

theorem witness_TransmitterChoosesFrame :
    ship.powered = true ∧
      (linked (fun k =>
        { k with
          resetWaiting := true
          sending := some (.reply { kind := 0x6C, tag := 0, status := .ok, body := [] }) })).link.resetWaiting = true ∧
      (linked (fun k => { k with flow := .pauseDue })).link.flow = .pauseDue ∧
      (linked (fun k => { k with flow := .resumeDue })).link.flow = .resumeDue ∧
      ((linked (fun k => { k with hostPause := true })).link.hostPause = true ∧ ship.link.flow = .flowOpen) ∧
      (busyLink.link.replies ≠ [] ∧ busyLink.link.frames = []) ∧ ship.link.replies = [] ∧
      ship.notices.queue = [] ++ Notice.firstStart :: [] := by decide

theorem witness_RequestBodyReadsBack :
    bodyLayout (.clockSet ⟨5, some ⟨65535, 86399⟩⟩) = some [(2, 65535), (3, 86399)] ∧
      (∀ p ∈ [(2, 65535), (3, 86399)], p.2 < 256 ^ p.1) ∧
      requestLength (.clockSet ⟨5, some ⟨65535, 86399⟩⟩) = (layoutBytes [(2, 65535), (3, 86399)]).length := by decide

theorem witness_FrameBytesActAsCommand :
    Ready ship 2 ∧ ship.link.rx = .hunting ∧ ship.link.rxBytes = [] ∧ 0x15 ≠ 0x71 ∧ 0x15 ≠ 0x72 := by decide

theorem polling (a : Nat) (ha : 1 ≤ a ∧ a ≤ 31) : Polling (polled a) (at1 a) :=
  ⟨⟨Nat.le_refl 1, (by decide : 1 ≤ 8), ha⟩,
    { addr := a, command := none, toggle := true, ack := false, ackValid := false, stale := false }, rfl, rfl, rfl⟩

theorem witness_GoodReplyUsed :
    (polled 6).powered = true ∧ Polling (polled 6) (at1 6) ∧ NoDoor ((polled 6).term (at1 6)).binding ∧
      KindFits ((polled 6).term (at1 6)).binding 3 ∧
      (((polled 6).term (at1 6)).online = .online ∧ ((polled 6).term (at1 6)).outstanding = none) := by
  have b : ((polled 6).term (at1 6)).binding = .unbound := by decide
  refine ⟨by decide, polling 6 (by decide), ?_, ?_, by decide⟩
  · intro n k h
    rw [b] at h
    cases h
  · rw [b]
    exact .inl rfl

theorem witness_GoodReplyUsed_clauses :
    (let s := polled 3 (termed 3 (fun x => { x with outstanding := some (.show .stopped) }));
      (s.term (at1 3)).binding = .gateFirst 1 ∧ (s.lane 1).passage = none ∧ (s.term (at1 3)).toggle = some true ∧
        (s.term (at1 3)).outstanding.isSome) ∧
      ((polled 2 (termed 2 (fun x => { x with online := .probing }))).term (at1 2)).online = .probing ∧
      ((polled 2 (termed 2 (fun x => { x with online := .offline }))).term (at1 2)).online = .offline ∧
      ((polled 2 (termed 2 (fun x => { x with online := .mismatch }))).term (at1 2)).online = .mismatch ∧
      ((Binding.bar 1).expects = some .bar ∧ TermKind.ofNum 1 ≠ some .bar) := by decide

theorem witness_ReportInReplyTaken :
    Polling (polled 3) (at1 3) ∧
      (((polled 3).term (at1 3)).online = .online ∧ ((polled 3).term (at1 3)).binding.expects = some .gate ∧
        ((polled 3).term (at1 3)).outstanding = none ∧ ((polled 3).term (at1 3)).eventToggle = none) ∧
      EventCarried (at1 3) (.gateFirst 1) [4] (.gatePassed (at1 3)) ∧
      EventCarried (at1 2) (.bar 1) (2 :: (serialBytes [1, 1, 1, 1] ++ [1, 1, 0, 2]))
        (.barPurchase (at1 2) [1, 1, 1, 1] [⟨1, 2⟩]) ∧
      ((polled 3 (termed 3 (fun x => { x with eventToggle := some true }))).term (at1 3)).eventToggle = some true := by
  refine ⟨polling 3 (by decide), by decide, .inr (.inl ⟨⟨1, .inl rfl⟩, .inl ⟨rfl, rfl⟩⟩),
    .inr (.inr ⟨⟨1, rfl⟩, .inr (.inr ?_)⟩), by decide⟩
  exact ⟨[1, 1, 1, 1], [⟨1, 2⟩], by decide, by decide, by decide, by decide, rfl⟩

/-- Events that are taken and discarded: any at an unbound terminal, PASSED at a bar, CONTACT at a gate, PURCHASE at a door,
PRESENT with a serial of 5 bytes, a PURCHASE of two lines that carries one. -/
theorem witness_ReportInReplyTaken_discarded :
    EventDiscarded .unbound (1 :: serialBytes [1, 1, 1, 1]) ∧ EventDiscarded (.bar 1) [4] ∧
      EventDiscarded (.gateFirst 1) [6, 1] ∧ EventDiscarded (.door 101 1) (2 :: (serialBytes [1, 1, 1, 1] ++ [0])) ∧
      EventDiscarded (.gateSecond 2) (1 :: serialBytes [1, 1, 1, 1, 1]) ∧
      EventDiscarded (.bar 1) (2 :: (serialBytes [1, 1, 1, 1] ++ [2, 1, 0, 2])) ∧ EventDiscarded (.bar 1) [] := by
  simp [EventDiscarded, EventListed, EventFits, serialBytes, lowByte]

/-- A terminal with an event to discard: unbound and ONLINE, the line in SLOW; with an acknowledgement beside it; MISMATCH; a
bar whose reply says that it is a door. -/
theorem witness_ReportInReplyTaken_discards :
    (Polling (polled 6 (lined .slow)) (at1 6) ∧ ((polled 6 (lined .slow)).term (at1 6)).online = .online ∧
      ((polled 6 (lined .slow)).term (at1 6)).binding = .unbound ∧
      ((polled 6 (lined .slow)).term (at1 6)).eventToggle = none) ∧
      (let s := polled 2 (termed 2 (fun x => { x with outstanding := some (.show .busy) }));
        (s.term (at1 2)).outstanding = some (.show .busy) ∧ (s.term (at1 2)).toggle = some true ∧
          Acknowledges (at1 2) (.show .busy) (.showAck (at1 2))) ∧
      ((polled 2 (termed 2 (fun x => { x with online := .mismatch }))).term (at1 2)).online = .mismatch ∧
      (∃ w, LossTold (at1 2) ((polled 2).term (at1 2))
        (raise .mismatch ([.term (some (at1 2))] ++ bindFields (.bar 1) ++ [.code (some 2), .code (some 1)])
          ((polled 2).setTerm (at1 2)
            { (polled 2).term (at1 2) with
              misses := 0, kindSeen := some .door, more := false, online := .mismatch, outstanding := none })) w) := by
  refine ⟨⟨⟨by decide, _, rfl, rfl, rfl⟩, by decide, by decide, by decide⟩, ⟨by decide, by decide, .inr (.inl ⟨_, rfl, rfl⟩)⟩,
    by decide, ?_⟩
  exact ⟨_, .inr (.inr (.inl ⟨1, { outlet := 1, quote := none, waiting := none }, by decide, by decide, .inl ⟨rfl, rfl⟩⟩))⟩

/-- R160, R168: an unbound terminal's event is discarded, its toggle taken, and the line returns from SLOW; R165: the event of
a MISMATCH terminal is acknowledged and its probe stays due. -/
theorem test_discarded_event :
    after (.fieldReply 1 (replyFrame 6 2 false true false 0 (some [4]))) (polled 6 (lined .slow))
        (fun u => ((u.line 1).state, (u.term (at1 6)).eventToggle)) = some (.running, some true) ∧
      after (.fieldReply 1 (replyFrame 6 2 false true false 0 (some [4])))
        (polled 6 (termed 6 (fun x => { x with online := .mismatch, probeDue := some 101000 })))
        (fun u => ((u.term (at1 6)).online, (u.term (at1 6)).eventToggle, (u.term (at1 6)).probeDue)) =
        some (.mismatch, some true, some 101000) := by decide +kernel

/-- R165: a bar whose reply says it is a door is MISMATCH, probed first 2 s later. -/
theorem test_mismatch_probe_due :
    after (.fieldReply 1 (replyFrame 2 1 false true false 0 (some [4]))) (polled 2)
      (fun u => ((u.term (at1 2)).online, (u.term (at1 2)).eventToggle, (u.term (at1 2)).probeDue)) =
      some (.mismatch, none, some 102000) := by decide +kernel

theorem witness_DoorReplyFeedsBatteryFilter :
    Polling (polled 1) (at1 1) ∧
      (((polled 1).term (at1 1)).online = .online ∧ ((polled 1).term (at1 1)).binding = .door 101 1 ∧
        (polled 1).door? (at1 1) = some (Door.initial 101 1) ∧ ((polled 1).term (at1 1)).outstanding = none) ∧
      BatteryRow ship.doors.settings .unknown 119 .critical ∧ BatteryRow ship.doors.settings .good 149 .low ∧
      BatteryRow ship.doors.settings .low 158 .good ∧ BatteryRow ship.doors.settings .critical 128 .low ∧
      ((Door.initial 101 1).run = none ∧ 1 < ship.doors.settings.filterCount) := by
  refine ⟨polling 1 (by decide), by decide, .inl (by decide), .inr (.inl (by decide)), .inr (.inr (.inr (.inl (by decide)))),
    .inr (.inr (.inr (.inr (by decide)))), by decide⟩

theorem witness_DoorReplyFeedsBatteryFilter_none :
    ∀ target, ¬ BatteryRow ship.doors.settings .good 150 target := by
  intro target h
  cases target <;> revert h <;> simp [BatteryRow, ship, DoorSettings.initial]

/-- A door unit with a report: beside the acknowledgement of an OPEN, and from PROBING and OFFLINE; each of its reports. -/
theorem witness_DoorReplyFeedsBatteryFilter_reports :
    (let s := polled 1 (termed 1 (fun x => { x with outstanding := some .openLock }));
      Polling s (at1 1) ∧ (s.term (at1 1)).online = .online ∧ (s.term (at1 1)).outstanding = some .openLock ∧
        (s.term (at1 1)).toggle = some true ∧ (s.term (at1 1)).eventToggle = none ∧
        Acknowledges (at1 1) .openLock (.openAck (at1 1))) ∧
      (∀ f : OnlineState, f = .probing ∨ f = .offline →
        let s := polled 1 (termed 1 (fun x => { x with online := f, toggle := none }))
        (s.term (at1 1)).online = f ∧ (s.term (at1 1)).outstanding = none ∧ s.door? (at1 1) = some (Door.initial 101 1)) ∧
      EventCarried (at1 1) (.door 101 1) [6, 1] (.doorContact (at1 1) true) ∧
      EventCarried (at1 1) (.door 101 1) [5, 0] (.doorPrivacy (at1 1) false) ∧
      EventCarried (at1 1) (.door 101 1) (1 :: serialBytes [1, 1, 1, 1]) (.doorPresent (at1 1) [1, 1, 1, 1]) ∧
      EventDiscarded (.door 101 1) [4] := by
  refine ⟨⟨⟨by decide, _, rfl, rfl, rfl⟩, by decide, by decide, by decide, by decide, .inl ⟨rfl, rfl⟩⟩, ?_,
    .inl ⟨⟨_, _, rfl⟩, .inr (.inr ⟨true, rfl, rfl⟩)⟩, .inl ⟨⟨_, _, rfl⟩, .inr (.inl ⟨false, rfl, rfl⟩)⟩,
    .inl ⟨⟨_, _, rfl⟩, .inl ⟨_, by decide, rfl, rfl⟩⟩, by simp [EventDiscarded, EventListed]⟩
  rintro f (rfl | rfl) <;> decide

/-- R164: the reply that brings a door unit ONLINE is used at once: its PRIVACY report is taken. -/
theorem test_report_of_a_door_back_online :
    after (.fieldReply 1 (replyFrame 1 1 false true false 200 (some [5, 1])))
      (polled 1 (termed 1 (fun x => { x with online := .offline, probeDue := some 100500 })))
      (fun u => ((u.term (at1 1)).online, (u.term (at1 1)).probeDue, (u.door? (at1 1)).map (·.privacy))) =
      some (.online, none, some true) := by decide +kernel

theorem witness_MissesMakeOffline :
    ship.powered = true ∧ (ship.line 1).exchange = none ∧ Polling (polled 6) (at1 6) ∧
      Failure (polled 6) (at1 6) (.replyTimeout 1) { (polled 6).line 1 with noReply := risen ((polled 6).line 1).noReply } ∧
      (((polled 6).term (at1 6)).online = .online ∧ ((polled 6).term (at1 6)).misses = 0) ∧
      (let s := polled 6 (termed 6 (fun x => { x with misses := 2 }));
        (s.term (at1 6)).misses = 2 ∧ (s.term (at1 6)).binding = .unbound) ∧
      ((polled 6 (termed 6 (fun x => { x with online := .offline }))).term (at1 6)).online = .offline :=
  ⟨by decide, by decide, polling 6 (by decide), .inl ⟨rfl, rfl⟩, by decide, by decide, by decide⟩

theorem witness_ProbesAndSlowSweepsPoll :
    let s := termed 6 (fun x => { x with online := .offline, probeDue := some 100500 })
    TermInRange (at1 6) ∧ ((s.term (at1 6)).online = .offline ∧ (s.term (at1 6)).probeDue = some 100500) ∧
      ((s.line 1).exchange = none ∧ (s.line 1).state = .running ∧ (s.line 1).inSweep = false) ∧
      (∀ a, a < 32 → (s.term ⟨1, a⟩).online = .online →
        (s.term ⟨1, a⟩).outstanding = none ∧ (s.term ⟨1, a⟩).more = false) ∧
      (∀ a, a < 32 → a ≠ 6 → (s.term ⟨1, a⟩).probeDue = none) ∧ ((polled 6 s).line 1).exchange.isSome ∧
      (let slow := ship.setLine 1 { ship.line 1 with state := .slow };
        (slow.line 1).state = .slow ∧
          ((List.range 31).map (· + 1)).filter (fun b => (slow.term ⟨1, b⟩).online = .online) = 1 :: [2, 3, 4, 5, 6] ∧
          (slow.term ⟨1, 1⟩).outstanding = none) := by decide

theorem witness_LineBreaksAndRecovers :
    ship.powered = true ∧ (ship.line 8).state = .stopped ∧ (ship.line 1).state = .running ∧
      (((lined .fault).line 1).state = .fault ∧ ((lined .fault).line 1).exchange = none) ∧
      (((polled 6 (lined .fault)).line 1).state = .fault ∧ ((polled 6 (lined .fault)).line 1).exchange.isSome) ∧
      ((termed 6 (fun x => { x with online := .offline }) (lined .fault)).term (at1 6)).online = .offline := by decide

/-- R169: found restored, the line is in RUNNING; the lower of two OFFLINE terminals is probed at once, and the probe of the other
is due now. -/
theorem test_line_restored :
    after (.lineFaultCheck 1 true)
      (lined .fault (termed 1 (fun x => { x with online := .offline }) (termed 6 (fun x => { x with online := .offline }))))
      (fun u => ((u.line 1).state, (u.line 1).exchange.map (·.addr), (u.term (at1 1)).probeDue, (u.term (at1 6)).probeDue)) =
      some (.running, some 1, some 102000, some 100000) := by decide +kernel

theorem doorUnit : DoorUnitOnline ship (at1 1) (Door.initial 101 1) :=
  ⟨by decide, by decide, by decide, ⟨101, 1, by decide⟩, by decide⟩

theorem guest_presents : PresentsActive ship [1, 1, 1, 1] 0 guest := ⟨by decide, by decide, by decide⟩

theorem security_presents : PresentsActive ship [3, 3, 3, 3] 1 (security [3, 3, 3, 3]) :=
  ⟨by decide, by decide, by decide⟩

theorem master_presents : PresentsActive ship [4, 4, 4, 4] 2 (Card.fresh .master [4, 4, 4, 4]) :=
  ⟨by decide, by decide, by decide⟩

theorem attendant_presents : PresentsActive ship [5, 5, 5, 5] 4 attendant := ⟨by decide, by decide, by decide⟩

theorem ashore_presents : PresentsActive ship [2, 2, 2, 2] 3 ashoreGuest := ⟨by decide, by decide, by decide⟩

theorem witness_DoorOutcomeFollowsAccessRule :
    DoorUnitOnline ship (at1 1) (Door.initial 101 1) ∧ PresentsActive ship [1, 1, 1, 1] 0 guest ∧
      DoorOutcome ship 0 guest (Door.initial 101 1) .opened ∧
      (PresentsActive ship [5, 5, 5, 5] 4 attendant ∧ DoorOutcome ship 4 attendant (Door.initial 101 1) .opened) ∧
      LookupRefuses ship [9, 9, 9, 9] .withdrawn none ∧ LookupRefuses ship [7, 7, 7, 7] .lost (some 6) := by
  refine ⟨doorUnit, guest_presents, ?_, ⟨attendant_presents, ?_⟩, .inl (by decide), .inr (.inr ⟨6, lost, by decide, by decide, rfl, ?_⟩)⟩
  · exact .inr (.inr ⟨by decide, rfl, .inl ⟨by decide, rfl⟩⟩)
  · refine .inr (.inr ⟨by decide, rfl, .inr (.inr (.inr (.inr (.inl ⟨by decide, by decide, ?_, by decide⟩))))⟩)
    exact ⟨⟨10, 36000⟩, ⟨480, 1020⟩, by decide, by decide, .inl (by decide)⟩
  · exact .inr ⟨rfl, rfl⟩

theorem witness_OwnDoorAndMasterOpen :
    DoorUnitOnline ship (at1 1) (Door.initial 101 1) ∧
      (PresentsActive ship [1, 1, 1, 1] 0 guest ∧ guest.kind ≠ .master ∧ (Door.initial 101 1).number ∈ guest.doors) ∧
      (PresentsActive ship [4, 4, 4, 4] 2 (Card.fresh .master [4, 4, 4, 4]) ∧
        (ship.term (at1 1)).outstanding = none) ∧
      ((termed 1 (fun x => { x with outstanding := some .openLock })).term (at1 1)).outstanding.isSome :=
  ⟨doorUnit, ⟨guest_presents, by decide, by decide⟩, ⟨master_presents, by decide⟩, by decide⟩

theorem witness_DoorRefusalsLeadToHold :
    DoorUnitOnline ship (at1 1) (Door.initial 101 1) ∧ LookupRefuses ship [8, 8, 8, 8] .unknown none ∧
      ((Door.initial 101 1).hold = none ∧ (Door.initial 101 1).streak + 1 < ship.doors.settings.streakThreshold) ∧
      ((doored (fun d => { d with streak := 2 })).door? (at1 1)).map (·.streak) = some 2 ∧
      ship.doors.settings.streakThreshold = 3 ∧
      ((doored (fun d => { d with hold := some ⟨130000, 65535⟩ })).door? (at1 1)).map (·.hold) =
        some (some ⟨130000, 65535⟩) :=
  ⟨doorUnit, .inr (.inl (by decide)), by decide, by decide, by decide, by decide⟩

theorem witness_SecondSecurityCardOverrides :
    let s := doored (fun d => { d with privacy := true, window := some ⟨1, 120000⟩ })
    DoorUnitOnline s (at1 1) { Door.initial 101 1 with privacy := true, window := some ⟨1, 120000⟩ } ∧
      PresentsActive s [3, 3, 3, 3] 1 (security [3, 3, 3, 3]) ∧ PresentsActive s [6, 6, 6, 6] 5 (security [6, 6, 6, 6]) ∧
      (security [3, 3, 3, 3]).presence = .aboard ∧ (s.term (at1 1)).outstanding = none ∧
      ((doored (fun d => { d with privacy := true })).door? (at1 1)).map (·.window) = some none :=
  ⟨⟨by decide, by decide, by decide, ⟨101, 1, by decide⟩, by decide⟩, ⟨by decide, by decide, by decide⟩,
    ⟨by decide, by decide, by decide⟩, by decide, by decide, by decide⟩

theorem witness_DoorReportsTaken :
    DoorUnitOnline ship (at1 1) (Door.initial 101 1) ∧ Canonical ship ∧
      ((Door.initial 101 1).contact = .unknown ∧ true ≠ (Door.initial 101 1).privacy) ∧
      ((doored (fun d => { d with privacy := true, window := some ⟨1, 120000⟩ })).door? (at1 1)).map (·.window) =
        some (some ⟨1, 120000⟩) ∧
      ((doored (fun d => { d with contact := .contactClosed, lastOpen := some 90000 })).door? (at1 1)).map (·.lastOpen) =
        some (some 90000) ∧ 100000 - 90000 ≤ 10000 ∧
      ((doored (fun d => { d with contact := .contactOpen, openSince := some 95000, alarm := .forced })).door? (at1 1)).map
        (·.alarm) = some .forced :=
  ⟨doorUnit, by decide, by decide, by decide, by decide, by decide, by decide⟩

theorem witness_DoorAcknowledgementsAndTimers :
    DoorUnitOnline ship (at1 1) (Door.initial 101 1) ∧
      ((termed 1 (fun x => { x with outstanding := some .openLock })).term (at1 1)).outstanding = some .openLock ∧
      ((termed 1 (fun x => { x with outstanding := some (.show .lost) })).term (at1 1)).outstanding = some (.show .lost) ∧
      (ship.term (at1 1)).outstanding = none ∧
      ((doored (fun d =>
          { d with
            window := some ⟨1, 120000⟩, hold := some ⟨130000, 2⟩, ajar := some ⟨140000, 60⟩, streak := 1
            streakTime := some 99000 })).door? (at1 1)).isSome :=
  ⟨doorUnit, by decide, by decide, by decide, by decide⟩

theorem gateOne (s : State) (hp : s.powered = true) (ho : (s.term (at1 3)).online = .online)
    (hb : (s.term (at1 3)).binding = .gateFirst 1) : GateOnline s (at1 3) 1 .first :=
  ⟨hp, by decide, by decide, by decide, ho, .inl ⟨rfl, hb⟩⟩

theorem witness_GateRefusalShown :
    GateOnline ship (at1 3) 1 .first ∧ LookupRefuses ship [8, 8, 8, 8] .unknown none ∧
      PresentsActive ship [4, 4, 4, 4] 2 (Card.fresh .master [4, 4, 4, 4]) ∧
      GateRefusal ship 2 .second guest .wrongWay ∧
      GateRefusal { ship with stops := ⟨⟨true, none⟩, ⟨false, none⟩⟩ } 1 .first guest .stopped := by
  refine ⟨gateOne ship (by decide) (by decide) (by decide), .inr (.inl (by decide)), master_presents, .inl ⟨rfl, rfl⟩, ?_⟩
  refine .inr (.inr ⟨rfl, ?_, .inr (.inl ⟨by decide, .inl (by decide), rfl⟩)⟩)
  rintro (h | ⟨h, -⟩)
  · exact h (at1 3) (by decide) (by decide)
  · revert h
    decide

theorem upOne : ¬ Down ship 1 := by
  rintro (h | ⟨h, -⟩)
  · exact h (at1 3) (by decide) (by decide)
  · revert h
    decide

theorem witness_GrantOpensPassage :
    GateOnline ship (at1 3) 1 .first ∧ (ship.lane 1).first = some (at1 3) ∧
      PresentsActive ship [1, 1, 1, 1] 0 guest ∧ guest.quote = none ∧ ¬ Down ship 1 ∧ (ship.lane 1).passage = none ∧
      ¬ Stopped ship 1 ∧ ¬ Closed ship 1 ∧ ¬ NoBoat ship 1 ∧ ¬ BoatFull ship 1 ∧ QuoteVoided ship 0 guest guest ship ∧
      ((ship.lane 1).pacing = 0 ∧ (ship.term (at1 3)).outstanding = none) ∧ (ship.lane 2).pacing ≠ 0 := by
  refine ⟨gateOne ship (by decide) (by decide) (by decide), by decide, guest_presents, by decide, upOne, by decide, ?_, ?_, ?_,
    ?_, .inl (by decide), by decide, by decide⟩
  · unfold Stopped; decide
  · unfold Closed; decide
  · unfold NoBoat; decide
  · rintro ⟨-, -, tr, h, hf⟩
    have e : (ship.lane 1).trip = 1 := by decide
    rw [e] at h
    cases h
    revert hf
    decide

/-- The guest holding the quote. -/
def quoting : Card := { guest with quote := some (at1 2), drinksHeld := 2 }

theorem witness_GrantOpensPassage_quote :
    PresentsActive (quoted) [1, 1, 1, 1] 0 quoting ∧
      QuoteVoided (quoted) 0 quoting { quoting with drinksHeld := quoting.drinksHeld - quote.drinks, quote := none }
        (delivered (at1 2) (.result (.voided .passage))
          (quoteReleased (at1 2) { outlet := 1, quote := some quote, waiting := none } quote quoting
            { account with held := 198 } (quoted))) :=
  ⟨⟨by decide, by decide, by decide⟩,
    .inr ⟨at1 2, _, quote, _, by decide, by decide, by decide, ⟨1, by decide⟩, by decide, rfl, rfl, by decide, rfl, rfl⟩⟩

theorem witness_PassageMovesOn :
    (let s := passing .firstSending true;
      GateOnline (termed 3 (fun x => { x with outstanding := some .release }) s) (at1 3) 1 .first) ∧
      ((passing .firstReleased true (some 101000)).lane 1).gate .first = some (at1 3) ∧
      ((passing .firstReleased true (some 101000)).card? 0).isSome ∧
      (((passing .firstReleased true (some 101000)).lane 1).passage.map (·.expiry)) = some (some 101000) ∧
      ((laned 1 (fun l => { l with pacing := 300 }) (passing .waitingPace false)).lane 1).pacing ≠ 0 ∧
      GateOnline (returning .secondReleased true (some 101000)) (at1 5) 2 .second ∧
      ((returning .secondReleased true (some 101000)).lane 2).gate .second = some (at1 5) := by
  refine ⟨gateOne _ (by decide) (by decide) (by decide), by decide, by decide, by decide, by decide, ?_, by decide⟩
  exact ⟨by decide, by decide, by decide, by decide, by decide, .inr ⟨rfl, by decide⟩⟩

theorem witness_PassedMovesCompletesOrIsStray :
    (let s := passing .firstReleased true;
      GateOnline s (at1 3) 1 .first ∧ (s.lane 1).chain = .single ∧
        AwaitsGate (outward .firstReleased true) .first ∧
        s.card? 0 = some { guest with passage := some 1 } ∧ (s.trip? 1).isSome) ∧
      ¬ AwaitsGate (outward .waitingPace false) .first ∧
      (let s := returning .firstSending true;
        (s.lane 2).chain = .double ∧ (s.lane 2).second = some (at1 5) ∧ (s.term (at1 5)).online = .online ∧
          (s.term (at1 5)).outstanding = none ∧ (s.card? 3).map (·.kind) = some .guest) := by
  refine ⟨⟨gateOne _ (by decide) (by decide) (by decide), by decide, ⟨rfl, .inl (by decide)⟩, by decide, by decide⟩, ?_,
    by decide⟩
  rintro ⟨h, -⟩
  cases h

theorem witness_PassedMovesCompletesOrIsStray_rows :
    CompletedOver ship 1
      { outward .firstReleased true with trip := 0 } guest
      (presenceMoved 0 { guest with passage := none, presence := .ashore, trip := 0 } 1
        { ship.presence with aboard := 3, ashore := 3 } ship) ∧
      MarksReturned 3 false [{ record := 3, time := none, returned := false, byCorrection := false }] (marked false) :=
  ⟨.inl ⟨rfl, rfl, rfl, rfl⟩, marks false⟩

theorem witness_StopInputCancelsWaiting :
    (passing .waitingPace false).powered = true ∧ (ship.lane 1).stopLinked = some .stopA ∧
      ship.stops.stopA.asserted = false := by decide

theorem barOnline (s : State) (y : Slot) (hp : s.powered = true) (ho : (s.term (at1 2)).online = .online)
    (hb : (s.term (at1 2)).binding = .bar 1) (hy : s.slot? (at1 2) = some y) : BarOnline s (at1 2) y :=
  ⟨hp, by decide, ho, ⟨1, hb⟩, hy⟩

theorem witness_PurchaseRefusedInOrder :
    BarOnline ship (at1 2) { outlet := 1, quote := none, waiting := none } ∧
      LookupRefuses ship [8, 8, 8, 8] .unknown none ∧
      BarOnline (quoted) (at1 2) { outlet := 1, quote := some quote, waiting := none } ∧
      (PresentsActive ship [3, 3, 3, 3] 1 (security [3, 3, 3, 3]) ∧ PresentsActive ship [2, 2, 2, 2] 3 ashoreGuest ∧
        PresentsActive ship [1, 1, 1, 1] 0 guest) ∧
      LinesRefused ship guest [] .format ∧ LinesRefused ship guest (List.replicate 13 ⟨1, 1⟩) .format ∧
      LinesRefused ship guest [⟨1023, 99⟩] .item ∧
      TotalRefused ship { Outlet.initial with ceiling := 100 } account 101 .ceiling ∧
      TotalRefused ship { Outlet.initial with ceiling := 1000000 } account 100001 .credit := by
  refine ⟨barOnline _ _ (by decide) (by decide) (by decide) (by decide), .inr (.inl (by decide)),
    barOnline _ _ (by decide) (by decide) (by decide) (by decide), ⟨security_presents, ashore_presents, guest_presents⟩,
    .inr (.inl (by decide)), .inr (.inl (by decide)), ?_, .inl (by decide), .inr (.inl (by decide))⟩
  refine .inr (.inr (.inl ⟨by decide, ?_, ⟨⟨1023, 99⟩, by simp, .inr (.inl (by decide))⟩, rfl⟩))
  rintro (h | h | ⟨k, hk, h⟩)
  · revert h; decide
  · revert h; decide
  · simp only [List.mem_singleton] at hk
    subst hk
    revert h
    decide

theorem lines_accepted : ∀ code, ¬ LinesRefused ship guest [⟨1, 1⟩] code := by
  have free : ¬ (guest.quote.isSome = true ∨ guest.passage.isSome = true) := by decide
  have item : ship.item? 1 = some { price := 600, category := .beerWine, adultOnly := true, active := true } := by decide
  intro code h
  rcases h with ⟨b, -⟩ | ⟨-, f, -⟩ | ⟨-, -, i, -⟩ | ⟨-, -, -, a, -⟩ | ⟨-, -, -, -, n, -⟩ | ⟨-, -, -, -, -, l, -⟩
  · exact free b
  · rcases f with f | f | ⟨k, hk, f⟩
    · exact absurd f (by decide)
    · exact absurd f (by decide)
    · simp only [List.mem_singleton] at hk
      subst hk
      exact absurd f (by decide)
  · obtain ⟨k, hk, f⟩ := i
    simp only [List.mem_singleton] at hk
    subst hk
    rcases f with f | f | ⟨x, hx, f⟩
    · exact absurd f (by decide)
    · rw [item] at f
      cases f
    · rw [item] at hx
      cases hx
      cases f
  · exact absurd a.1 (by decide)
  · exact absurd n (by decide)
  · exact absurd l (by decide)

theorem witness_PurchaseOpensQuote :
    BarOnline ship (at1 2) { outlet := 1, quote := none, waiting := none } ∧
      PresentsActive ship [1, 1, 1, 1] 0 guest ∧ (∀ code, ¬ LinesRefused ship guest [⟨1, 1⟩] code) ∧
      ship.account? guest.account = some account ∧
      ∀ code, ¬ TotalRefused ship (ship.outlet 1) account
        (quotedPrice ship guest account (ship.outlet 1) [⟨1, 1⟩]).total code := by
  refine ⟨barOnline _ _ (by decide) (by decide) (by decide) (by decide), guest_presents, lines_accepted, by decide, ?_⟩
  rintro code (⟨h, -⟩ | ⟨-, h, -⟩ | ⟨-, -, h, -⟩ | ⟨-, -, -, h, -⟩) <;> revert h <;> decide

theorem witness_ConfirmCommitsQuote :
    BarOnline (quoted) (at1 2) { outlet := 1, quote := some quote, waiting := none } ∧ quote.shown = true ∧
      ((quoted).card? 0).isSome ∧ (quoted).account? 1 = some { account with held := 198 } ∧
      BarOnline (quoted { quote with shown := false }) (at1 2)
        { outlet := 1, quote := some { quote with shown := false }, waiting := none } :=
  ⟨barOnline _ _ (by decide) (by decide) (by decide) (by decide), by decide, by decide, by decide,
    barOnline _ _ (by decide) (by decide) (by decide) (by decide)⟩

theorem witness_BarKeysExpiryAndAcknowledgements :
    BarOnline (quoted) (at1 2) { outlet := 1, quote := some quote, waiting := none } ∧
      ((quoted).card? 0).isSome ∧ ((quoted).account? 1).isSome ∧
      BarOnline ship (at1 2) { outlet := 1, quote := none, waiting := none } ∧
      ((termed 2 (fun x => { x with outstanding := some (.quote 198 18 2) }) (quoted)).term (at1 2)).outstanding =
        some (.quote 198 18 2) ∧
      ((quoted quote (some (.result .cancelled))).slot? (at1 2)).map (·.waiting) = some (some (.result .cancelled)) ∧
      ((termed 2 (fun x => { x with outstanding := some (.result .cancelled) })).term (at1 2)).outstanding =
        some (.result .cancelled) :=
  ⟨barOnline _ _ (by decide) (by decide) (by decide) (by decide), by decide, by decide,
    barOnline _ _ (by decide) (by decide) (by decide) (by decide), by decide, by decide, by decide⟩

/-- A commit that waits at the front of the queue of a safe part. -/
def committing : State := { quoted with pending := [.barKeyConfirm (at1 2)] }

theorem witness_StepKeepsFormAndBounds :
    Canonical committing ∧ Bounded committing ∧ (match step committing with | .next _ => true | _ => false) = true := by
  decide

theorem witness_StepKeepsIndex : Indexed committing := by decide

theorem witness_StepKeepsTallies : Tallied committing ∧ Tallied (passing .firstReleased true) := by decide

theorem witness_StepKeepsTallies_passage : PassagesHeld (passing .firstReleased true) := by
  refine ⟨by decide, ?_⟩
  intro n p h
  obtain ⟨l, hm, hp⟩ := lane_mem _ n p h
  have held : ∀ q ∈ (passing .firstReleased true).lanes,
      q.2.passage = none ∨ (q.1 = 1 ∧ q.2.passage = some (outward .firstReleased true)) := by decide
  rcases held _ hm with e | ⟨e1, e2⟩
  · rw [e] at hp
    cases hp
  · rw [e2] at hp
    cases hp
    simp only at e1
    subst e1
    exact ⟨{ guest with passage := some 1 }, by decide, by decide, by decide⟩

theorem witness_StepKeepsLeftBehind :
    sailing.register.cards.sorted ∧ (∀ p ∈ sailing.lanes, 1 ≤ p.1 ∧ p.1 ≤ 8 ∧ p.2.passage = none) ∧
      sailing.presence.leftBehind =
        (sailing.register.cards.filter (fun p => p.2.kind ≠ .master ∧ p.2.presence = .ashore)).map (·.1) := by decide

/-! ## More of what the statements ask, clause by clause -/

theorem witness_EmptyQueueAndUnpoweredSteps_samples :
    (let first := { ship with now := 9, pins := { ship.pins with stopA := true } };
      (first.powered = true ∧ (first.now + 1) % 10 = 0) ∧
        (debouncer .stopA first).last ≠ some (pinLevel .stopA first)) ∧
      (let second := { ship with
          now := 19, pins := { ship.pins with stopA := true }, stops := ⟨⟨false, some true⟩, ⟨false, some false⟩⟩ };
        (debouncer .stopA second).last = some (pinLevel .stopA second) ∧
          (debouncer .stopA second).asserted ≠ pinLevel .stopA second) := by decide

/-- The ship as the last byte of its PART-RESET reply goes. -/
def resetting : State :=
  linked (fun k =>
    { k with resetWaiting := true, sending := some (.reply { kind := 0x6C, tag := 0, status := .ok, body := [] }) })

theorem witness_StartsKeepIntactGroups_reset :
    (Canonical resetting ∧ resetting.powered = true) ∧ ResetReplySending resetting ∧ ¬ ResetReplySending ship :=
  ⟨by decide, ⟨rfl, _, rfl, rfl, rfl⟩, fun h => absurd h.1 (by decide)⟩

/-- No card, account or backlog of the ship has a notice of its own at a start. -/
theorem witness_StartsKeepIntactGroups_start :
    (∀ n c, ship.card? n = some c → c.passage = none) ∧
      (∀ n a, ship.account? n = some a → ({ a with held := 0 } : Account).evaluated = a.warning) ∧
      ship.posting.high = false := by
  refine ⟨fun n c h => ?_, fun n a h => ?_, by decide⟩
  · have all : ∀ p ∈ ship.register.cards, p.2.passage = none := by decide
    exact all _ (find_mem _ _ _ h)
  · have all : ∀ p ∈ ship.store.accounts, ({ p.2 with held := 0 } : Account).evaluated = p.2.warning := by decide
    exact all _ (find_mem _ _ _ h)

theorem witness_CardStatusEndsWorkInFlight_each :
    (∃ i reply d r, EndsWork 0 3 0 { guest with passage := some 1 } (passing .waitingPace false) i reply .suspended d r) ∧
      (∃ i reply d r, EndsWork 0 13 0 { guest with passage := some 1 } (passing .waitingPace false) i reply .reissued d r) ∧
      ∃ i reply d r, EndsWork 0 13 0 quoting (quoted) i reply .reissued d r :=
  ⟨⟨_, _, _, _, .inl ⟨.suspended, .inl ⟨rfl, rfl⟩, rfl, rfl, rfl, rfl⟩⟩,
    ⟨_, _, _, _, .inr ⟨[9, 9, 9, 9], by decide, by decide, rfl, rfl, rfl, rfl, rfl⟩⟩,
    ⟨_, _, _, _, .inr ⟨[9, 9, 9, 9], by decide, by decide, rfl, rfl, rfl, rfl, rfl⟩⟩⟩

theorem witness_PresenceSetAndConflictClear_conflict :
    let s := carded 0 { guest with conflict := some .missedReturn }
    (Ready s 3 ∧ s.card? 0 = some { guest with conflict := some .missedReturn } ∧ s.presence.call ≠ .sailing) ∧
      (Ready ship 3 ∧ ship.card? 3 = some ashoreGuest ∧ ashoreGuest.trip ≠ 0 ∧ (ship.trip? 2).isSome) := by decide

theorem witness_CallStateGovernsSailing_loading :
    Ready ship 1 ∧ ship.presence.call ≠ .sailing ∧ ∃ p ∈ ship.presence.trips, p.2.state = .loading := by decide

/-! The terminals of the ship as they leave ONLINE. -/

theorem loss_door {t : TermId} {x : Terminal} {s : State} {n k : Nat} {d : Door} (hb : x.binding = .door n k)
    (hd : s.door? t = some d) : ∃ w, LossTold t x s w := by
  by_cases ho : x.outstanding = some .openLock
  · cases hh : d.hostOpen with
    | false => exact ⟨_, .inr (.inl ⟨n, k, d, hb, hd, .inr (.inl ⟨ho, hh, rfl⟩)⟩)⟩
    | true => exact ⟨_, .inr (.inl ⟨n, k, d, hb, hd, .inr (.inr ⟨ho, hh, rfl⟩)⟩)⟩
  · exact ⟨_, .inr (.inl ⟨n, k, d, hb, hd, .inl ⟨ho, rfl⟩⟩)⟩

theorem loss_gate {t : TermId} {x : Terminal} {s : State} {n : Nat} {g : Gate} {p : Passage} {c : Card} (hn : 1 ≤ n ∧ n ≤ 8)
    (hb : (g = .first ∧ x.binding = .gateFirst n) ∨ (g = .second ∧ x.binding = .gateSecond n))
    (hp : (s.lane n).passage = some p) (hc : s.card? p.card = some c) (hk : c.kind ≠ .master) : ∃ w, LossTold t x s w := by
  by_cases h1 : p.state = .waitingPace
  · exact ⟨_, .inr (.inr (.inr ⟨n, g, hn.1, hn.2, hb, .inr ⟨p, c, hp, hc, hk, .inl ⟨h1, rfl⟩⟩⟩))⟩
  · by_cases h2 : WaitsOn p g
    · exact ⟨_, .inr (.inr (.inr ⟨n, g, hn.1, hn.2, hb, .inr ⟨p, c, hp, hc, hk, .inr (.inl ⟨h2, rfl⟩)⟩⟩))⟩
    · exact ⟨_, .inr (.inr (.inr ⟨n, g, hn.1, hn.2, hb, .inr ⟨p, c, hp, hc, hk, .inr (.inr ⟨h1, h2, rfl⟩)⟩⟩))⟩

/-- A terminal of line 1 disabled, the block of its binding not told yet. -/
def disabled (a : Nat) (s : State) : State :=
  termed a (fun x => { x with enabled := false, online := .disabled, outstanding := none, probeDue := none }) s

theorem witness_DisableAbandonsWork_told :
    let opening := termed 1 (fun x => { x with outstanding := some .openLock })
    (∃ w, LossTold (at1 1) (opening.term (at1 1)) (disabled 1 opening) w) ∧
      (∃ w, LossTold (at1 2) (ship.term (at1 2)) (disabled 2 ship) w) ∧
      (∃ w, LossTold (at1 2) ((quoted).term (at1 2)) (disabled 2 (quoted)) w) ∧
      (∃ w, LossTold (at1 3) (ship.term (at1 3)) (disabled 3 ship) w) ∧
      (∃ w, LossTold (at1 3) ((passing .waitingPace false).term (at1 3)) (disabled 3 (passing .waitingPace false)) w) ∧
      (∃ w, LossTold (at1 5) ((returning .secondReleased true).term (at1 5)) (disabled 5 (returning .secondReleased true)) w) ∧
      (∃ w, LossTold (at1 5) ((returning .firstSending true).term (at1 5)) (disabled 5 (returning .firstSending true)) w) ∧
      ((polled 6).line 1).exchange.isSome := by
  refine ⟨loss_door (n := 101) (k := 1) (d := Door.initial 101 1) (by decide) (by decide), ?_, ?_, ?_, ?_, ?_, ?_, by decide⟩
  · exact ⟨_, .inr (.inr (.inl ⟨1, { outlet := 1, quote := none, waiting := none }, by decide, by decide, .inl ⟨rfl, rfl⟩⟩))⟩
  · exact ⟨_, .inr (.inr (.inl ⟨1, _, by decide, (by decide :
      (disabled 2 (quoted)).slot? (at1 2) = some { outlet := 1, quote := some quote, waiting := none }),
      .inr ⟨quote, quoting, { account with held := 198 }, rfl, by decide, by decide, rfl⟩⟩))⟩
  · exact ⟨_, .inr (.inr (.inr ⟨1, .first, by decide, by decide, .inl ⟨rfl, by decide⟩, .inl ⟨by decide, rfl⟩⟩))⟩
  · exact loss_gate (n := 1) (g := .first) (p := outward .waitingPace false) (c := { guest with passage := some 1 })
      (by decide) (.inl ⟨rfl, by decide⟩) (by decide) (by decide) (by decide)
  · exact loss_gate (n := 2) (g := .second) (c := { ashoreGuest with passage := some 2 })
      (p := { card := 3, grantTime := 99000, direction := .inward, trip := 0, state := .secondReleased, expiry := none
              releasePlaced := true })
      (by decide) (.inr ⟨rfl, by decide⟩) (by decide) (by decide) (by decide)
  · exact loss_gate (n := 2) (g := .second) (c := { ashoreGuest with passage := some 2 })
      (p := { card := 3, grantTime := 99000, direction := .inward, trip := 0, state := .firstSending, expiry := none
              releasePlaced := true })
      (by decide) (.inr ⟨rfl, by decide⟩) (by decide) (by decide) (by decide)

theorem witness_GoodReplyUsed_bound :
    (let s := polled 3 (termed 3 (fun x => { x with outstanding := some .release }));
      Polling s (at1 3) ∧ (s.term (at1 3)).outstanding = some .release ∧ (s.term (at1 3)).toggle = some true ∧
        Acknowledges (at1 3) .release (.releaseAck (at1 3))) ∧
      (let s := polled 1;
      let x := s.term (at1 1);
      (x.online = .online ∧ x.binding.expects = some .door ∧ TermKind.ofNum 2 ≠ some .door) ∧
        ∃ v, LossTold (at1 1) x
          (raise .mismatch ([.term (some (at1 1))] ++ bindFields x.binding ++ [.code (some 1), .code (some 2)])
            (s.setTerm (at1 1) { x with misses := 0, kindSeen := some .bar, online := .mismatch })) v) := by
  refine ⟨⟨polling 3 (by decide), by decide, by decide, .inr (.inr (.inl ⟨rfl, rfl⟩))⟩, by decide, ?_⟩
  exact loss_door (n := 101) (k := 1) (d := Door.initial 101 1) (by decide) (by decide)

theorem witness_DoorReplyFeedsBatteryFilter_used :
    (∃ w, BatteryUsed (at1 1) { Door.initial 101 1 with battery := .good } 150 (polled 1) w) ∧
      (∃ w, BatteryUsed (at1 1) (Door.initial 101 1) 119 (polled 1) w) ∧
      (∃ w, BatteryUsed (at1 1) { Door.initial 101 1 with run := some ⟨.critical, 1⟩ } 119 (polled 1) w) ∧
      (let s := polled 1 (termed 1 (fun x => { x with outstanding := some .openLock }));
        (s.term (at1 1)).outstanding = some .openLock ∧ (s.term (at1 1)).toggle = some true ∧
          Acknowledges (at1 1) .openLock (.openAck (at1 1))) ∧
      ((polled 1 (termed 1 (fun x => { x with online := .probing }))).term (at1 1)).online = .probing ∧
      ((polled 1 (termed 1 (fun x => { x with online := .offline }))).term (at1 1)).online = .offline ∧
      DoorReport (at1 1) (1 :: serialBytes [1, 1, 1, 1]) (.doorPresent (at1 1) [1, 1, 1, 1]) ∧
      DoorReport (at1 1) [5, 1] (.doorPrivacy (at1 1) true) ∧ DoorReport (at1 1) [6, 0] (.doorContact (at1 1) false) := by
  refine ⟨⟨_, .inl ⟨witness_DoorReplyFeedsBatteryFilter_none, rfl⟩⟩, ⟨_, .inr ⟨.critical, 1, .inl (by decide), .inr ⟨?_, rfl⟩,
    .inl ⟨by decide, rfl⟩⟩⟩, ⟨_, .inr ⟨.critical, 2, .inl (by decide), .inl ⟨1, rfl, rfl⟩, .inr ⟨by decide, rfl⟩⟩⟩,
    ⟨by decide, by decide, .inl ⟨rfl, rfl⟩⟩, by decide, by decide, .inl ⟨_, by decide, rfl, rfl⟩, .inr (.inl ⟨true, rfl, rfl⟩),
    .inr (.inr ⟨false, rfl, rfl⟩)⟩
  intro m h
  cases h

theorem witness_MissesMakeOffline_lost :
    let s := polled 1 (termed 1 (fun x => { x with misses := 2 }))
    Polling s (at1 1) ∧ (s.term (at1 1)).online = .online ∧ 2 ≤ (s.term (at1 1)).misses ∧
      (∃ v, LossTold (at1 1) (s.term (at1 1))
        (raise .offline ([.term (some (at1 1))] ++ bindFields (s.term (at1 1)).binding ++ [.u1 1])
          ((s.setLine 1 { s.line 1 with noReply := risen (s.line 1).noReply }).setTerm (at1 1)
            { s.term (at1 1) with misses := 0, online := .offline, outstanding := none })) v) ∧
      ((polled 1 (termed 1 (fun x => { x with online := .probing, misses := 2 }))).term (at1 1)).online = .probing :=
  ⟨polling 1 (by decide), by decide, by decide,
    loss_door (n := 101) (k := 1) (d := Door.initial 101 1) (by decide) (by decide), by decide⟩

/-- The ship, the poll in progress discarded, its round at a position of line 1. -/
def swept (pos : Nat) : State :=
  ship.setLine 1
    { ship.line 1 with
      exchange := some { addr := 7, command := none, toggle := true, ack := false, ackValid := false, stale := true }
      roundPos := pos, inSweep := true }

theorem witness_ProbesAndSlowSweepsPoll_sweep :
    (((swept 7).line 1).state = .running ∧ ((swept 7).line 1).inSweep = true ∧ ((swept 7).line 1).slowPermitted = true ∧
      ((swept 7).line 1).sweepEvent = false) ∧ ¬ Ahead (swept 7) 1 ∧ Ahead (swept 6) 1 ∧ QuietLine (swept 7) 1 := by
  refine ⟨by decide, ?_, ⟨6, by decide, by decide, by decide, by decide⟩, ?_⟩
  · rintro ⟨a, h1, -, h2, h⟩
    have none_left : ∀ b, b < 32 → 7 ≤ b → ¬ (((swept 7).term ⟨1, b⟩).online = .probing ∨ ((swept 7).term ⟨1, b⟩).online = .online) := by
      decide
    exact none_left a (by omega) h1 h
  · intro a h1 h2
    have each : ∀ b, b < 32 → ((swept 7).term ⟨1, b⟩).outstanding = none ∧ ((swept 7).term ⟨1, b⟩).more = false ∧
        ((swept 7).term ⟨1, b⟩).online ≠ .probing := by decide
    refine ⟨(each a (by omega)).1, (each a (by omega)).2.1, (each a (by omega)).2.2, ?_, ?_⟩
    · intro n _
      cases hp : ((swept 7).lane n).passage with
      | none => rfl
      | some p =>
        obtain ⟨l, hm, hl⟩ := lane_mem _ n p hp
        have free : ∀ q ∈ (swept 7).lanes, q.2.passage = none := by decide
        rw [free _ hm] at hl
        cases hl
    · intro o y _ hy
      have free : ∀ q ∈ (swept 7).slots, q.2.quote = none := by decide
      unfold State.slot? at hy
      split at hy
      · exact free (termKey ⟨1, a⟩, y) (find_mem _ _ _ hy)
      · cases hy

theorem witness_LineBreaksAndRecovers_lost :
    ∃ w, LossesTold 1
      (((List.range 31).map (· + 1)).filter (fun a => (ship.term ⟨1, a⟩).online = .online)) ship w := by
  have list : ((List.range 31).map (· + 1)).filter (fun a => (ship.term ⟨1, a⟩).online = .online) = [1, 2, 3, 4, 5, 6] := by
    decide
  rw [list]
  refine ⟨_, _, .inr (.inl ⟨101, 1, Door.initial 101 1, by decide, by decide, .inl ⟨by decide, rfl⟩⟩),
    _, .inr (.inr (.inl ⟨1, { outlet := 1, quote := none, waiting := none }, by decide, by decide, .inl ⟨rfl, rfl⟩⟩)),
    _, .inr (.inr (.inr ⟨1, .first, by decide, by decide, .inl ⟨rfl, by decide⟩, .inl ⟨by decide, rfl⟩⟩)),
    _, .inr (.inr (.inr ⟨2, .first, by decide, by decide, .inl ⟨rfl, by decide⟩, .inl ⟨by decide, rfl⟩⟩)),
    _, .inr (.inr (.inr ⟨2, .second, by decide, by decide, .inr ⟨rfl, by decide⟩, .inl ⟨by decide, rfl⟩⟩)),
    _, .inl ⟨by decide, rfl⟩, rfl⟩

/-- A guest ASHORE whose cabin is door 101. -/
def ashoreOwner : Card := { ashoreGuest with doors := [101] }

theorem witness_OwnDoorAndMasterOpen_more :
    (PresentsActive (carded 3 ashoreOwner) [2, 2, 2, 2] 3 ashoreOwner ∧ ashoreOwner.presence = .ashore ∧
      DoorOutcome (carded 3 ashoreOwner) 3 ashoreOwner (Door.initial 101 1) .opened) ∧
      DoorOutcome ship 1 (security [3, 3, 3, 3]) (Door.initial 101 1) .opened ∧
      (let s := doored (fun d => { d with hold := some ⟨130000, 2⟩, window := some ⟨1, 120000⟩ });
        DoorUnitOnline s (at1 1) { Door.initial 101 1 with hold := some ⟨130000, 2⟩, window := some ⟨1, 120000⟩ } ∧
          PresentsActive s [4, 4, 4, 4] 2 (Card.fresh .master [4, 4, 4, 4])) := by
  refine ⟨⟨⟨by decide, by decide, by decide⟩, by decide, .inr (.inr ⟨by decide, rfl, .inl ⟨by decide, rfl⟩⟩)⟩,
    .inr (.inr ⟨by decide, rfl, .inr (.inr (.inr (.inr (.inr (.inl ⟨by decide, by decide, rfl, rfl⟩)))))⟩), ?_⟩
  exact ⟨⟨by decide, by decide, by decide, ⟨101, 1, by decide⟩, by decide⟩, by decide, by decide, by decide⟩

theorem onShift (s : State) (h : s.clock = some ⟨10, 36000⟩) :
    ∃ now w, s.clock = some now ∧ attendant.window = some w ∧ MinuteInside w (now.sec / 60) :=
  ⟨⟨10, 36000⟩, ⟨480, 1020⟩, h, rfl, .inl (by decide)⟩

theorem witness_DoorRefusalsLeadToHold_refusals :
    (∃ seen, DoorRefuses (at1 1) [2, 2, 2, 2] .notPermitted (some 3) (Door.initial 101 1) ship seen) ∧
      (∃ seen, DoorRefuses (at1 1) [5, 5, 5, 5] .battery (some 4) { Door.initial 101 1 with battery := .critical } ship seen) ∧
      (∃ seen, DoorRefuses (at1 1) [5, 5, 5, 5] .privacy (some 4) { Door.initial 101 1 with privacy := true } ship seen) ∧
      (∃ seen, DoorHolds (at1 1) [2, 2, 2, 2] (some 3) ship seen) ∧
      ∃ seen, DoorHolds (at1 1) [8, 8, 8, 8] none ship seen := by
  refine ⟨⟨_, .inr ⟨3, ashoreGuest, ashore_presents, rfl, ?_, .inr (.inr rfl), rfl⟩⟩,
    ⟨_, .inr ⟨4, attendant, attendant_presents, rfl, ?_, .inl rfl, rfl⟩⟩,
    ⟨_, .inr ⟨4, attendant, attendant_presents, rfl, ?_, .inr (.inl rfl), rfl⟩⟩,
    ⟨_, .inr ⟨3, ashoreGuest, ashore_presents, by decide, rfl, rfl⟩⟩, ⟨_, .inl ⟨.unknown, .inr (.inl (by decide)), rfl⟩⟩⟩
  · exact .inr (.inr ⟨by decide, rfl, .inr (.inr (.inr (.inr (.inr (.inr (.inr (.inr (by decide))))))))⟩)
  · exact .inr (.inr ⟨by decide, rfl, .inr (.inr (.inl ⟨by decide, by decide, onShift ship (by decide), rfl, rfl⟩))⟩)
  · exact .inr (.inr ⟨by decide, rfl, .inr (.inr (.inr (.inl ⟨by decide, by decide, onShift ship (by decide), by decide, rfl,
      rfl⟩)))⟩)

theorem witness_SecondSecurityCardOverrides_more :
    let away := { security [3, 3, 3, 3] with presence := .ashore }
    (PresentsActive (carded 1 away) [3, 3, 3, 3] 1 away ∧ away.presence = .ashore) ∧
      ((termed 1 (fun x => { x with outstanding := some .openLock })).term (at1 1)).outstanding ≠ none :=
  ⟨⟨⟨by decide, by decide, by decide⟩, by decide⟩, by decide⟩

theorem witness_PassedMovesCompletesOrIsStray_two_trips :
    ∃ w, CompletedOver ship 1 { outward .firstReleased true with card := 3 } ashoreGuest w :=
  ⟨_, .inr (.inr (.inr (.inr (.inr (.inr (.inr (.inl ⟨rfl, rfl, by decide, by decide, _, _, (by decide :
    ship.trip? 2 = some { boat := 2, capacity := 4, lane := 0, state := .afloat
                          manifest := [{ record := 3, time := none, returned := false, byCorrection := false }] }),
    marks true, _, (by decide : _ = some { boat := 1, capacity := 2, lane := 1, state := .loading, manifest := [] }),
    rfl⟩)))))))⟩

theorem witness_RequestBodyReadsBack_absent :
    bodyLayout (.cardSet ⟨20,
        some { record := 0, role := none, sect := some 3, window := some ⟨0, 1439⟩, doors := some [101], account := none
               adult := some 1, package := none, drinkCap := some 5000, dailyCap := some 30 }⟩) =
      some [(2, 0), (1, 255), (1, 3), (2, 0), (2, 1439), (1, 1), (2, 101), (2, 65535), (1, 1), (1, 255), (4, 5000), (1, 30)] ∧
      bodyLayout (.accountSet ⟨16, some ⟨512, some (-10000000), some 0, some 5000000, some 5000⟩⟩) =
        some [(2, 512), (4, 4284967296), (4, 0), (4, 5000000), (2, 5000)] := by decide

/-- R187: without a PART-RESET reply being sent there is no warm reset. -/
theorem test_warm_reset_waits :
    after (.warmReset ⟨false, false, false, false, false⟩ ⟨true, true⟩) ship (fun u => u.startup) = some ship.startup := by
  decide +kernel

/-- R202: straps high and low select 460,800 baud. -/
theorem test_straps_select_rate :
    after (.powerOn ⟨true, true, true, true, true⟩ { rate1 := true, rate0 := false }) State.reset State.linkBaud =
      some 460800 := by decide +kernel

/-- R82, R198: the first security card's OVERRIDE-START ends in the window of 30 s in one byte. -/
theorem test_override_start_content :
    after (.doorPresent (at1 1) [3, 3, 3, 3]) (doored (fun d => { d with privacy := true }))
      (fun u => u.notices.queue.getLast?.map (fun n => n.content)) =
      some (some [.num (some 101), .term (some (at1 1)), .num (some 1), .u1 30]) := by decide +kernel

/-- R167, R168: with no terminal left at address 7 or above the sweep has ended, and the quiet line enters SLOW. -/
theorem test_sweep_ends_past_last_terminal :
    after (.replyTimeout 1) (swept 7) (fun u => (u.line 1).state) = some .slow ∧
      after (.replyTimeout 1) (swept 6) (fun u => (u.line 1).state) = some .running := by decide +kernel

/-! ## The clauses of the second review -/

/-- What the clauses of a start over the ship ask: its store check with every group intact leaves it as it is, line 1 is
enabled with its lowest enabled terminal at address 1, line 2 is not, lane 1 has a LOADING trip. -/
theorem witness_StartsKeepIntactGroups_clauses :
    storeChecked ⟨false, false, false, false, false⟩ ship = ship ∧ Canonical ship ∧
      ((ship.line 1).enabled = true ∧ (ship.term ⟨1, 1⟩).enabled = true ∧ (ship.line 2).enabled = false) ∧
      (ship.trip? 0 = none ∧ (ship.trip? 1).map (fun r => (r.state, r.lane)) = some (.loading, 1)) := by decide

/-- With group B lost every card's account is 0 and START is alone as well. -/
theorem witness_StartsKeepIntactGroups_lost :
    let s := storeChecked ⟨false, true, false, true, false⟩ ship
    s.register.cards.map (fun p => p.2.account) = List.replicate 7 0 ∧ s.store.accounts = [] ∧
      (∀ p ∈ s.register.cards, p.2.passage = none) ∧ s.posting.high = false ∧ s.slots = [] ∧
      (s.line 1).enabled = false ∧ s.startup.loss = ⟨false, true, false, true, false⟩ := by decide

/-- R201: group B lost and group A kept: every card's account is 0, and the flag is set. -/
theorem test_group_b_lost :
    after (.powerOn ⟨false, true, false, false, false⟩ ⟨false, false⟩) ship
      (fun u => ((u.card? 0).map (fun c => (c.account, c.doors)), u.startup.loss.b)) = some (some (0, [101]), true) := by
  decide +kernel

theorem witness_ReportInReplyTaken_clauses :
    let release := polled 3 (termed 3 (fun x => { x with outstanding := some .release }) (passing .firstReleased true))
    (Polling release (at1 3) ∧ (release.term (at1 3)).online = .online ∧
      (release.term (at1 3)).outstanding = some .release ∧ (release.term (at1 3)).toggle = some true ∧
      (release.term (at1 3)).eventToggle = none ∧ Acknowledges (at1 3) .release (.releaseAck (at1 3))) ∧
      ((polled 3 (termed 3 (fun x => { x with online := .probing }))).term (at1 3)).online = .probing ∧
      (let s := polled 3 (termed 3 (fun x => { x with online := .offline, eventToggle := some false }));
        (s.term (at1 3)).online = .offline ∧ (s.term (at1 3)).outstanding = none ∧
          (s.term (at1 3)).eventToggle = some false) :=
  ⟨⟨⟨⟨by decide, by decide, by decide, by decide⟩, _, rfl, rfl, rfl⟩, by decide, by decide, by decide, by decide,
      .inr (.inr (.inl ⟨rfl, rfl⟩))⟩, by decide, by decide⟩

/-- Each of the four ways a frame is a bad check. -/
theorem witness_MissesMakeOffline_frames :
    BadFrame [0xC4, 6, 1, 0, 9, 0, 0, 0] ∧ BadFrame [0xC3, 6, 1] ∧ BadFrame [0xC3, 6, 1, 0, 9, 3, 0, 0] ∧
      BadFrame [0xC3, 6, 1, 0, 9, 0, 0, 0] :=
  ⟨.inl (by decide), .inr (.inl (by decide)), .inr (.inr (.inl ⟨3, rfl, by decide⟩)),
    .inr (.inr (.inr (by decide +kernel)))⟩

/-- The ship with line 1 in SLOW. -/
def slowShip : State := ship.setLine 1 { ship.line 1 with state := .slow }

theorem witness_ProbesAndSlowSweepsPoll_clauses :
    ((slowShip.line 1).state = .slow ∧ (slowShip.line 1).exchange = none) ∧ ((polled 2 slowShip).line 1).exchange.isSome ∧
      (let s := termed 6 (fun x => { x with online := .offline, probeDue := some 100500 }) slowShip;
        (s.term (at1 6)).online = .offline ∧ (s.line 1).exchange = none ∧ (s.line 1).state = .slow) ∧
      (Ready slowShip 2 ∧ (slowShip.term (at1 7)).online = .disabled ∧ (slowShip.line 1).enabled = true) ∧
      (let s := (quoted { quote with shown := false }).setLine 1 { ship.line 1 with state := .slow };
        s.powered = true ∧ (s.term (at1 2)).online = .online ∧ (s.term (at1 2)).binding = .bar 1 ∧
          ((s.slot? (at1 2)).bind (fun y => y.quote)).map (fun q => q.shown) = some false ∧ (s.line 1).state = .slow) ∧
      (((polled 6 slowShip).term (at1 6)).binding = .unbound ∧ ((polled 6 slowShip).term (at1 6)).online = .online ∧
        ((polled 6 slowShip).term (at1 6)).outstanding = none) := by decide

/-- R167: a candidate at address 3 is polled by priority while the run is below 4, and leaves the round its turn at 4. -/
theorem test_four_priority_polls :
    let at3 := fun run =>
      let s := termed 3 (fun x => { x with more := true }) (swept 5)
      s.setLine 1 { s.line 1 with priorityRun := run }
    let polledNext := fun u : State => ((u.line 1).exchange.map (fun p => p.addr), (u.line 1).priorityRun, (u.line 1).roundPos)
    after (.replyTimeout 1) (at3 3) polledNext = some (some 3, 4, 5) ∧
      after (.replyTimeout 1) (at3 4) polledNext = some (some 5, 0, 6) := by decide +kernel

/-- R164, R167: a probe made in SLOW sets the priority run to 0. -/
theorem test_slow_probe_ends_priority_run :
    let s := termed 6 (fun x => { x with online := .offline, probeDue := some 100500 })
      (ship.setLine 1 { ship.line 1 with state := .slow, priorityRun := 3 })
    after (.probeDue (at1 6)) s (fun u => ((u.line 1).exchange.map (fun p => p.addr), (u.line 1).priorityRun, u.now)) =
      some (some 6, 0, 100500) := by decide +kernel

theorem witness_GrantOpensPassage_slow :
    GateOnline slowShip (at1 3) 1 .first ∧ PresentsActive slowShip [1, 1, 1, 1] 0 guest ∧ ¬ Down slowShip 1 ∧
      ¬ Stopped slowShip 1 ∧ ¬ Closed slowShip 1 ∧ ¬ NoBoat slowShip 1 ∧ ¬ BoatFull slowShip 1 ∧
      QuoteVoided slowShip 0 guest guest slowShip ∧ (slowShip.line 1).state = .slow := by
  have w := witness_GrantOpensPassage
  exact ⟨gateOne slowShip (by decide) (by decide) (by decide), ⟨by decide, by decide, by decide⟩, upOne, w.2.2.2.2.2.2.1,
    w.2.2.2.2.2.2.2.1, w.2.2.2.2.2.2.2.2.1, w.2.2.2.2.2.2.2.2.2.1, .inl (by decide), by decide⟩

theorem witness_PassageMovesOn_waiting :
    let first := termed 3 (fun x => { x with outstanding := some (.show .busy) }) (passing .waitingPace false)
    let second := termed 5 (fun x => { x with outstanding := some (.show .wrongWay) }) (returning .secondSending false)
    (GateOnline first (at1 3) 1 .first ∧ (first.lane 1).gate .first = some (at1 3) ∧ (first.lane 1).pacing = 0 ∧
      (first.lane 1).passage.map (fun p => p.state) = some .waitingPace ∧
      (first.term (at1 3)).outstanding = some (.show .busy)) ∧
      Acknowledges (at1 3) (.show .busy) (.showAck (at1 3)) ∧
      (GateOnline second (at1 5) 2 .second ∧ (second.lane 2).gate .second = some (at1 5) ∧
        (second.lane 2).passage.map (fun p => (p.state, p.releasePlaced)) = some (.secondSending, false) ∧
        (second.card? 3).isSome ∧ (second.term (at1 5)).outstanding = some (.show .wrongWay)) ∧
      (((passing .firstReleased true).lane 1).passage.map (fun p => p.state) = some .firstReleased ∧
        ((returning .secondReleased true).lane 2).passage.map (fun p => p.state) = some .secondReleased) :=
  ⟨⟨gateOne _ (by decide) (by decide) (by decide), by decide, by decide, by decide, by decide⟩, .inr (.inl ⟨_, rfl, rfl⟩),
    ⟨⟨by decide, by decide, by decide, by decide, by decide, .inr ⟨rfl, by decide⟩⟩, by decide, by decide, by decide,
      by decide⟩, by decide, by decide⟩

/-- R59: the SHOW at the second gate acknowledged, the RELEASE that waited is placed there. -/
theorem test_show_acknowledged_places_release :
    after (.showAck (at1 5)) (termed 5 (fun x => { x with outstanding := some (.show .wrongWay) }) (returning .secondSending false))
      (fun u => ((u.term (at1 5)).outstanding, (u.lane 2).passage.map (fun p => (p.state, p.releasePlaced)))) =
      some (some .release, some (.secondSending, true)) := by decide +kernel

theorem witness_BarKeysExpiryAndAcknowledgements_waiting :
    let newer := termed 2 (fun x => { x with outstanding := some (.quote 9 9 0) })
      (quoted { quote with shown := false } (some (.quote 198 18 2)))
    let showing := termed 2 (fun x => { x with outstanding := some (.show .format) })
      ((quoted quote (some (.result .cancelled))).setLine 1 { ship.line 1 with state := .slow })
    (BarOnline newer (at1 2) { outlet := 1, quote := some { quote with shown := false }, waiting := some (.quote 198 18 2) } ∧
      (newer.term (at1 2)).outstanding = some (.quote 9 9 0)) ∧
      (BarOnline showing (at1 2) { outlet := 1, quote := some quote, waiting := some (.result .cancelled) } ∧
        (showing.term (at1 2)).outstanding = some (.show .format) ∧ (showing.line 1).state = .slow) :=
  ⟨⟨barOnline _ _ (by decide) (by decide) (by decide) (by decide), by decide⟩,
    barOnline _ _ (by decide) (by decide) (by decide) (by decide), by decide, by decide⟩

theorem witness_PurchaseRefusedInOrder_quoted :
    BarOnline (quoted) (at1 2) { outlet := 1, quote := some quote, waiting := none } ∧
      LookupRefuses (quoted) [9, 9, 9, 9] .withdrawn none ∧ LookupRefuses (quoted) [7, 7, 7, 7] .lost (some 6) :=
  ⟨barOnline _ _ (by decide) (by decide) (by decide) (by decide), .inl (by decide),
    .inr (.inr ⟨6, lost, by decide, by decide, rfl, .inr (by decide)⟩)⟩

/-- R10, R116: at a slot with a quote a withdrawn serial is not shown, and WITHDRAWN-SEEN is raised. -/
theorem test_withdrawn_at_open_quote :
    after (.barPurchase (at1 2) [9, 9, 9, 9] [⟨1, 1⟩]) (quoted)
      (fun u => ((u.term (at1 2)).outstanding, u.notices.queue.getLast?.map (fun n => n.name))) =
      some (none, some .withdrawnSeen) := by decide +kernel

end Sys2Proof.Tests
end

section
/-! PROOFS. Accounts, items and outlets: what each of their eight requests answers (R101 to R108, R110), and the
statements about them. -/

namespace Sys2Proof.Proofs.Tariff

open Sys2Proof.Machine Sys2Proof.Claims

/-! ## A request served at once -/

/-- The next state of a request command on a part ready for it, from what the request's block answers. -/
theorem exec_of_serveRequest {c : Instr} {tag : Byte} {req : Request} {s u : State} {status : Code}
    {body : List Field} (ready : Ready s (requestLength req)) (hc : exec c s = live (requestArrives tag req) s)
    (answer : serveRequest req s = ⟨u, status, body⟩) :
    exec c s = .next (replied (requestKind req) tag status body u) := by
  rw [hc, live_request_ready tag req s ready, answerRequest, answer, placeReply_eq]
  rfl

/-! ## The numbers in range -/

theorem validAccount_iff (n : Nat) : validAccount n = true ↔ 1 ≤ n ∧ n ≤ 512 := by
  simp only [validAccount, Bool.and_eq_true, decide_eq_true_eq]
  rfl

theorem validAccount_eq_false {n : Nat} (h : n = 0 ∨ 512 < n) : validAccount n = false := by
  rw [Bool.eq_false_iff, ne_eq, validAccount_iff]
  omega

theorem validOutlet_iff (n : Nat) : validOutlet n = true ↔ 1 ≤ n ∧ n ≤ 16 := by
  simp only [validOutlet, Bool.and_eq_true, decide_eq_true_eq]
  rfl

/-- The fields of an ACCOUNT-SET in range, as the check of R101 tests them. -/
theorem accountSetReq_inRange {n : Nat} {balance : Option Int} {limit allowance discount : Option Nat} (h1 : 1 ≤ n)
    (h512 : n ≤ 512) (hb : ∀ v, balance = some v → -10000000 ≤ v ∧ v ≤ 100000000)
    (hl : ∀ v, limit = some v → v ≤ 100000000) (ha : ∀ v, allowance = some v → v ≤ 5000000)
    (hd : ∀ v, discount = some v → v ≤ 5000) :
    AccountSetReq.inRange ⟨n, balance, limit.map Int.ofNat, allowance.map Int.ofNat, discount⟩ = true := by
  have number : validAccount n = true := (validAccount_iff n).2 ⟨h1, h512⟩
  have balanceIn : inRange balance (-10000000) 100000000 = true := by
    cases balance with
    | none => rfl
    | some v => simpa [inRange] using hb v rfl
  have moneyIn : ∀ (v : Option Nat) (top : Nat), (∀ x, v = some x → x ≤ top) →
      inRange (v.map Int.ofNat) 0 top = true := by
    intro v top h
    cases v with
    | none => rfl
    | some x => simpa [inRange] using h x rfl
  have discountIn : atMost discount 5000 = true := by
    cases discount with
    | none => rfl
    | some v => simpa [atMost] using hd v rfl
  have limitIn := moneyIn limit 100000000 hl
  have allowanceIn := moneyIn allowance 5000000 ha
  simp only [AccountSetReq.inRange, number, balanceIn, discountIn, Bool.true_and, Bool.and_true]
  exact Bool.and_eq_true_iff.2 ⟨limitIn, allowanceIn⟩

/-! ## Codes read back -/

theorem category_ofNum_num (c : Category) : Category.ofNum c.num = some c := by
  cases c <;> rfl

theorem yesNo_of_bool (b : Bool) : yesNo (if b then 1 else 0) = some b := by
  cases b <;> rfl

theorem itemStateOfNum_of_bool (b : Bool) : itemStateOfNum (if b then 1 else 2) = some b := by
  cases b <;> rfl

/-! ## Accounts as read and as written -/

theorem accountFields_of_closed {s : State} {n : Nat} (h : s.account? n = none) : accountFields n s = [.u1 0] := by
  simp only [accountFields, h]

theorem cardsNaming_eq (s : State) (n : Nat) :
    cardsNaming s n = (s.register.cards.filter (fun p => p.2.account = n)).length := rfl

theorem cardsNaming_pos_iff (s : State) (n : Nat) : 0 < cardsNaming s n ↔ ∃ p ∈ s.register.cards, p.2.account = n := by
  simp [cardsNaming_eq, List.length_pos_iff_exists_mem]

theorem accountFields_of_open {s : State} {n : Nat} {a : Account} (h : s.account? n = some a) :
    accountFields n s = accountAsRead s n a := by
  simp only [accountFields, h, accountAsRead, cardsNaming_eq, Account.exposure]

/-- What a read gives of an account rests on the card register alone, beside the account. -/
theorem accountAsRead_congr {s t : State} (h : t.register = s.register) (n : Nat) (a : Account) :
    accountAsRead t n a = accountAsRead s n a := by
  simp only [accountAsRead, h]

/-- The operation that writes an account, in the words of the claims (R98 to R100). -/
theorem writeAccount_eq_accountWritten (n : Nat) (a : Account) (cause : WarningCause) (s : State) :
    writeAccount n a cause s = accountWritten n a cause.num s := rfl

/-- An account just written reads back OPEN, whatever notice its warning raised. -/
theorem accountFields_writeAccount (n : Nat) (a : Account) (cause : WarningCause) (s : State) :
    ∃ x, (writeAccount n a cause s).account? n = some x ∧
      accountFields n (writeAccount n a cause s) = accountAsRead s n x := by
  obtain ⟨u, hu⟩ := writeAccount_cases n a cause s
  have found : (writeAccount n a cause s).account? n = some { a with warning := a.evaluated } := by
    have same : ((s.setAccount n { a with warning := a.evaluated }).withNotices u).account? n =
      (s.setAccount n { a with warning := a.evaluated }).account? n := rfl
    rw [hu, same, State.setAccount_account, if_pos rfl]
  have register : (writeAccount n a cause s).register = s.register := by rw [hu]; rfl
  exact ⟨_, found, (accountFields_of_open found).trans (accountAsRead_congr register n _)⟩

/-! ## The account requests (R101 to R104) -/

/-- A CLOSED account is opened by all four fields, or not at all (R101). -/
theorem serveAccountSet_of_closed_missing {q : AccountSetReq} {s : State} {len : Nat}
    (range : AccountSetReq.inRange q = true) (closed : s.account? q.account = none)
    (missing : q.balance = none ∨ q.limit = none ∨ q.allowance = none ∨ q.discount = none) :
    serveAccountSet ⟨len, some q⟩ s = refuse s .format := by
  obtain ⟨n, balance, limit, allowance, discount⟩ := q
  simp only [serveAccountSet, orFormat_some, range, closed, Bool.true_eq_false, if_false]
  split
  · simp at missing
  · rfl

/-- The account that opens has no money pending or held, and its warning evaluated from clear (R101). -/
theorem serveAccountSet_of_closed {n limit allowance discount : Nat} {balance : Int} {s : State} {len : Nat}
    (range : AccountSetReq.inRange ⟨n, some balance, some (Int.ofNat limit), some (Int.ofNat allowance), some discount⟩ =
      true) (closed : s.account? n = none) :
    let t := writeAccount n
      { balance, limit, allowance, pending := 0, held := 0, discount, warning := false } .host s
    serveAccountSet
        ⟨len, some ⟨n, some balance, some (Int.ofNat limit), some (Int.ofNat allowance), some discount⟩⟩ s =
      ⟨t, .ok, accountFields n t⟩ := by
  simp only [serveAccountSet, orFormat_some, range, closed, Bool.true_eq_false, if_false]
  rfl

/-- Of an OPEN account the fields present are written, the allowance at least pending plus held (R101, R102). -/
theorem serveAccountSet_of_open {n : Nat} {balance : Option Int} {limit allowance discount : Option Nat} {a : Account}
    {s : State} {len : Nat}
    (range : AccountSetReq.inRange ⟨n, balance, limit.map Int.ofNat, allowance.map Int.ofNat, discount⟩ = true)
    (isOpen : s.account? n = some a) :
    let t := writeAccount n
      { a with
        balance := balance.getD a.balance, limit := limit.getD a.limit, discount := discount.getD a.discount
        allowance := (allowance.map (fun v => max v (a.pending + a.held))).getD a.allowance } .host s
    serveAccountSet ⟨len, some ⟨n, balance, limit.map Int.ofNat, allowance.map Int.ofNat, discount⟩⟩ s =
      ⟨t, .ok, accountFields n t⟩ := by
  simp only [serveAccountSet, orFormat_some, range, isOpen, Bool.true_eq_false, if_false]
  cases limit <;> cases allowance <;> rfl

theorem table_erase_eq {α : Type} (t : Table α) (n : Nat) : t.erase n = t.filter (fun p => p.1 ≠ n) := by
  simp only [Table.erase, bne, ne_eq, decide_not]
  rfl

section AccountNumber

variable {n : Nat} {s : State} {len : Nat} (h1 : 1 ≤ n) (h512 : n ≤ 512)
include h1 h512

theorem serveAccountRead_eq : serveAccountRead ⟨len, some n⟩ s = ⟨s, .ok, accountFields n s⟩ := by
  simp [serveAccountRead, orFormat_some, (validAccount_iff n).2 ⟨h1, h512⟩]

theorem serveAccountClose_of_closed (closed : s.account? n = none) :
    serveAccountClose ⟨len, some n⟩ s = refuse s .notFound := by
  simp [serveAccountClose, orFormat_some, (validAccount_iff n).2 ⟨h1, h512⟩, closed]

/-- The money is tested before the cards (R103). -/
theorem serveAccountClose_of_open {a : Account} (isOpen : s.account? n = some a) :
    serveAccountClose ⟨len, some n⟩ s =
      if 0 < a.pending ∨ 0 < a.held then refuse s .pending
      else if ∃ p ∈ s.register.cards, p.2.account = n then refuse s .busy
      else
        ⟨{ s with store := { s.store with accounts := s.store.accounts.filter (fun p => p.1 ≠ n) } }, .ok,
          [.money a.balance]⟩ := by
  simp only [serveAccountClose, orFormat_some, (validAccount_iff n).2 ⟨h1, h512⟩, isOpen, cardsNaming_pos_iff,
    table_erase_eq, Bool.true_eq_false, if_false]
  rfl

end AccountNumber

theorem serveAccountClose_of_invalid {n : Nat} {s : State} {len : Nat} (h : n = 0 ∨ 512 < n) :
    serveAccountClose ⟨len, some n⟩ s = refuse s .range := by
  simp [serveAccountClose, orFormat_some, validAccount_eq_false h]

theorem serveAccountRead_of_invalid {n : Nat} {s : State} {len : Nat} (h : n = 0 ∨ 512 < n) :
    serveAccountRead ⟨len, some n⟩ s = refuse s .range := by
  simp [serveAccountRead, orFormat_some, validAccount_eq_false h]

/-- An ACCOUNT-SET that writes an account replies with the account as it then reads. -/
theorem exec_accountSet_of_written {tag : Byte} {len n : Nat} {q : AccountSetReq} {a : Account} {s : State}
    (ready : Ready s len)
    (answer : serveAccountSet ⟨len, some q⟩ s =
      ⟨writeAccount n a .host s, .ok, accountFields n (writeAccount n a .host s)⟩) :
    ∃ x, (accountWritten n a 5 s).account? n = some x ∧
      exec (.accountSet tag ⟨len, some q⟩) s =
        .next (replied 0x40 tag .ok (accountAsRead s n x) (accountWritten n a 5 s)) := by
  obtain ⟨x, found, fields⟩ := accountFields_writeAccount n a .host s
  rw [fields] at answer
  rw [writeAccount_eq_accountWritten] at found answer
  exact ⟨x, found, exec_of_serveRequest (req := .accountSet ⟨len, some q⟩) ready rfl answer⟩

theorem exec_accountClose_of_answer {tag : Byte} {len : Nat} {n : Option Nat} {s u : State} {status : Code}
    {body : List Field} (ready : Ready s len) (answer : serveAccountClose ⟨len, n⟩ s = ⟨u, status, body⟩) :
    exec (.accountClose tag ⟨len, n⟩) s = .next (replied 0x41 tag status body u) :=
  exec_of_serveRequest (req := .accountClose ⟨len, n⟩) ready rfl answer

/-- Settles O20: each request's answer in the order of its rule's checks. -/
theorem accountSetCloseAndRead : Obligations.AccountSetCloseAndRead := by
  refine ⟨?set, ?closeAndRead, ?refused⟩
  case set =>
    intro tag len n balance limit allowance discount s ready h1 h512 hb hl ha hd
    have range := accountSetReq_inRange h1 h512 hb hl ha hd
    refine ⟨fun closed missing => ?_, ?_, fun a isOpen => ?_⟩
    · have missing' : balance = none ∨ limit.map Int.ofNat = none ∨ allowance.map Int.ofNat = none ∨ discount = none := by
        simpa only [Option.map_eq_none_iff] using missing
      exact exec_of_serveRequest (req := .accountSet ⟨len, _⟩) ready rfl
        (serveAccountSet_of_closed_missing range closed missing')
    · rintro b l a d closed rfl rfl rfl rfl
      exact exec_accountSet_of_written ready (serveAccountSet_of_closed range closed)
    · exact exec_accountSet_of_written ready (serveAccountSet_of_open range isOpen)
  case closeAndRead =>
    intro tag len n s ready h1 h512
    have read := exec_of_serveRequest (c := .accountRead tag _) (req := .accountRead ⟨len, some n⟩) ready rfl
      (serveAccountRead_eq h1 h512)
    refine ⟨fun closed => ⟨?_, ?_⟩, fun a isOpen => ⟨?_, ?_⟩⟩
    · exact exec_accountClose_of_answer ready (serveAccountClose_of_closed h1 h512 closed)
    · rwa [accountFields_of_closed closed] at read
    · rwa [accountFields_of_open isOpen] at read
    · have answer := serveAccountClose_of_open (len := len) h1 h512 isOpen
      have noMoney (hp : a.pending = 0) (hh : a.held = 0) : ¬ (0 < a.pending ∨ 0 < a.held) := by omega
      refine ⟨fun money => ?_, fun pending held named => ?_, fun pending held unnamed => ?_⟩ <;>
        refine exec_accountClose_of_answer ready (answer.trans ?_)
      · exact if_pos money
      · exact (if_neg (noMoney pending held)).trans (if_pos named)
      · have notNamed : ¬ ∃ p ∈ s.register.cards, p.2.account = n := fun ⟨p, hp, e⟩ => unnamed p hp e
        exact (if_neg (noMoney pending held)).trans (if_neg notNamed)
  case refused =>
    intro tag len n s ready invalid
    exact ⟨exec_accountClose_of_answer ready (serveAccountClose_of_invalid invalid),
      exec_of_serveRequest (req := .accountRead ⟨len, _⟩) ready rfl (serveAccountRead_of_invalid invalid),
      exec_accountClose_of_answer ready rfl⟩

/-! ## The item requests (R105, R106) -/

theorem serveItemSet_eq {n price : Nat} {category : Category} {adultOnly active : Bool} {s : State} {len : Nat}
    (hn : n < 1024) (hp : price ≤ 99999) :
    serveItemSet ⟨len, some ⟨n, price, category.num, if adultOnly then 1 else 0, if active then 1 else 2⟩⟩ s =
      ⟨{ s with store := { s.store with items := s.store.items.insert n { price, category, adultOnly, active } } }, .ok,
        [.money price, .u1 category.num, .flag adultOnly, .u1 (if active then 1 else 2)]⟩ := by
  have range : ¬ (Limits.items ≤ n ∨ (price : Int) < 0 ∨ 99999 < (price : Int)) := by
    simp only [Limits.items]
    omega
  simp only [serveItemSet, orFormat_some, if_neg range, category_ofNum_num, yesNo_of_bool, itemStateOfNum_of_bool,
    Int.toNat_natCast]
  rfl

theorem serveItemRead_eq {n : Nat} {s : State} {len : Nat} (hn : n < 1024) :
    serveItemRead ⟨len, some n⟩ s = ⟨s, .ok, itemFields n s⟩ := by
  have range : ¬ Limits.items ≤ n := by simpa [Limits.items] using hn
  simp only [serveItemRead, orFormat_some, if_neg range]

theorem itemFields_eq (n : Nat) (s : State) :
    itemFields n s =
      match s.item? n with
      | none => [.u1 0]
      | some i =>
        [.u1 (if i.active then 1 else 2), .money i.price, .u1 i.category.num, .flag i.adultOnly,
          .u1 (if i.active then 1 else 2)] := by
  unfold itemFields
  cases s.item? n <;> rfl

/-! ## The outlet requests (R107, R108) -/

theorem clamp_eq (lo hi v : Nat) : clamp lo hi v = max lo (min hi v) := rfl

/-- The state of an accepted OUTLET-SET (R107). -/
def outletStored (n : Nat) (o : Outlet) (s : State) : State :=
  s.withStore { s.store with outlets := Table.put Outlet.initial s.store.outlets n o }

theorem outletStored_outlet (n k : Nat) (o : Outlet) (s : State) :
    (outletStored n o s).outlet k = if k = n then o else s.outlet k :=
  Table.look_put _ _ _ _ _

/-- Putting the outlets back gives the state before: nothing else was written. -/
theorem outletStored_restored (n : Nat) (o : Outlet) (s : State) :
    { outletStored n o s with store := { (outletStored n o s).store with outlets := s.store.outlets } } = s := rfl

theorem serveOutletSet_eq {n rate ceiling timeout : Nat} {honoured : Bool} {s : State} {len : Nat} (h1 : 1 ≤ n)
    (h16 : n ≤ 16) (hr : rate ≤ 2500) (hlo : 100 ≤ ceiling) (hhi : ceiling ≤ 10000000) :
    serveOutletSet ⟨len, some ⟨n, rate, ceiling, if honoured then 1 else 0, timeout⟩⟩ s =
      ⟨outletStored n { rate, ceiling, honoured, timeout := max 10 (min 300 timeout) } s, .ok,
        [.u2 rate, .money ceiling, .flag honoured, .u2 (max 10 (min 300 timeout))]⟩ := by
  have number : validOutlet n = true := (validOutlet_iff n).2 ⟨h1, h16⟩
  have range : ¬ (validOutlet n = false ∨ 2500 < rate ∨ (ceiling : Int) < 100 ∨ 10000000 < (ceiling : Int)) := by
    simp only [number, Bool.true_eq_false, false_or]
    omega
  simp only [serveOutletSet, orFormat_some, if_neg range, yesNo_of_bool, Int.toNat_natCast, clamp_eq]
  rfl

theorem barsAt_eq (n : Nat) (s : State) :
    barsAt n s = (s.field.terms.filter (fun p => p.2.binding = .bar n)).length := rfl

theorem serveOutletRead_eq {n : Nat} {s : State} {len : Nat} (h1 : 1 ≤ n) (h16 : n ≤ 16) :
    serveOutletRead ⟨len, some n⟩ s =
      ⟨s, .ok, (s.outlet n).fields ++ [.u1 (s.field.terms.filter (fun p => p.2.binding = .bar n)).length]⟩ := by
  simp [serveOutletRead, orFormat_some, (validOutlet_iff n).2 ⟨h1, h16⟩, barsAt_eq]

/-! ## The day roll (R110) -/

theorem rolled_cards (cards : Table Card) :
    cards.mapVals Card.rolled =
      cards.map (fun p => (p.1, if p.2.kind = .guest then { p.2 with drinksUsed := 0 } else p.2)) := rfl

theorem serveDayRoll_eq (s : State) (len : Nat) :
    serveDayRoll ⟨len, some ()⟩ s =
      ⟨{ s with
          register :=
            { s.register with
              cards := s.register.cards.map (fun p =>
                (p.1, if p.2.kind = .guest then { p.2 with drinksUsed := 0 } else p.2)) } }, .ok,
        [.u2 (s.register.cards.filter (fun p => p.2.kind = .guest ∧ 0 < p.2.drinksUsed)).length]⟩ := by
  simp only [serveDayRoll, orFormat_some, rolled_cards, Bool.decide_and]
  rfl

/-- Settles O21: each request's answer, put into the frame that carries it. -/
theorem tariffStoredReadAndRolled : Obligations.TariffStoredReadAndRolled := by
  intro tag len s ready
  refine ⟨?itemSet, ?itemRead, ?outletSet, ?outletRead, ?dayRoll, ?format⟩
  case itemSet =>
    intro n price category adultOnly active hn hp
    exact exec_of_serveRequest (req := .itemSet ⟨len, _⟩) ready rfl (serveItemSet_eq hn hp)
  case itemRead =>
    intro n hn
    have read := exec_of_serveRequest (c := .itemRead tag _) (req := .itemRead ⟨len, some n⟩) ready rfl
      (serveItemRead_eq hn)
    rw [itemFields_eq] at read
    exact read
  case outletSet =>
    intro n rate ceiling timeout honoured h1 h16 hr hlo hhi
    refine ⟨outletStored n { rate, ceiling, honoured, timeout := max 10 (min 300 timeout) } s,
      exec_of_serveRequest (req := .outletSet ⟨len, _⟩) ready rfl (serveOutletSet_eq h1 h16 hr hlo hhi), ?_, fun k hk => ?_,
      outletStored_restored ..⟩
    · rw [outletStored_outlet, if_pos rfl]
    · rw [outletStored_outlet, if_neg hk]
  case outletRead =>
    intro n h1 h16
    exact exec_of_serveRequest (req := .outletRead ⟨len, _⟩) ready rfl (serveOutletRead_eq h1 h16)
  case dayRoll => exact exec_of_serveRequest (req := .dayRoll ⟨len, _⟩) ready rfl (serveDayRoll_eq s len)
  case format => exact exec_of_serveRequest (req := .dayRoll ⟨len, none⟩) ready rfl rfl

end Sys2Proof.Proofs.Tariff
end

section
/-! PROOFS. The posting queue: where a sequence stands, what CHARGE-READ gives, what CHARGE-POSTED removes (R139, R142 to
R146), and the statement about them. -/

namespace Sys2Proof.Proofs.PostingQueue

open Sys2Proof.Machine Sys2Proof.Claims

/-! ## The place of a sequence (R139) -/

section Place

variable {p : Posting} {seq : Nat}

theorem placeOf_of_noneIssued (noneIssued : p.lastSeq = 0) : p.placeOf seq = .ahead := if_pos noneIssued

theorem placeOf_of_inQueue (issued : p.lastSeq ≠ 0) (inQueue : stepsBack seq p.lastSeq < p.committed.length) :
    p.placeOf seq = .inQueue (stepsBack seq p.lastSeq) :=
  (if_neg issued).trans (if_pos inQueue)

theorem placeOf_of_behind (issued : p.lastSeq ≠ 0) (notIn : p.committed.length ≤ stepsBack seq p.lastSeq)
    (behind : stepsBack seq p.lastSeq ≤ 2147483647) : p.placeOf seq = .behind :=
  (if_neg issued).trans ((if_neg (Nat.not_lt_of_ge notIn)).trans (if_pos behind))

theorem placeOf_of_ahead (issued : p.lastSeq ≠ 0) (notIn : p.committed.length ≤ stepsBack seq p.lastSeq)
    (ahead : 2147483647 < stepsBack seq p.lastSeq) : p.placeOf seq = .ahead :=
  (if_neg issued).trans ((if_neg (Nat.not_lt_of_ge notIn)).trans (if_neg (Nat.not_le_of_gt ahead)))

end Place

/-! ## CHARGE-READ (R142, R143) -/

/-- The records a read begins with, by the place of its sequence. -/
theorem readFrom_eq (p : Posting) (seq : Nat) :
    p.readFrom seq =
      if p.lastSeq = 0 then []
      else if seq = 0 then p.committed
      else if stepsBack seq p.lastSeq < p.committed.length then
        p.committed.drop (p.committed.length - 1 - stepsBack seq p.lastSeq)
      else if stepsBack seq p.lastSeq ≤ 2147483647 then p.committed
      else [] := by
  unfold Posting.readFrom
  refine ite_congr rfl (fun _ => rfl) fun issued => ite_congr rfl (fun _ => rfl) fun _ => ?_
  rcases Nat.lt_or_ge (stepsBack seq p.lastSeq) p.committed.length with inQueue | notIn
  · rw [placeOf_of_inQueue issued inQueue, if_pos inQueue]
  · rw [if_neg (Nat.not_lt_of_ge notIn)]
    rcases Nat.lt_or_ge 2147483647 (stepsBack seq p.lastSeq) with ahead | behind
    · rw [placeOf_of_ahead issued notIn ahead, if_neg (Nat.not_le_of_gt ahead)]
    · rw [placeOf_of_behind issued notIn behind, if_pos behind]

theorem chargeBytes_cons (c : Charge) (cs : List Charge) : chargeBytes (c :: cs) = c.size + chargeBytes cs := rfl

/-- The records that fit are the longest front part of the list with no more than n records and no more bytes than the
room. -/
theorem fitting_eq_take (n room : Nat) (cs : List Charge) :
    ∃ k, fitting n room cs = cs.take k ∧ k ≤ n ∧ k ≤ cs.length ∧ chargeBytes (cs.take k) ≤ room ∧
      (k = n ∨ k = cs.length ∨ room < chargeBytes (cs.take (k + 1))) := by
  induction n, room, cs using fitting.induct with
  | case1 room cs => exact ⟨0, by simp [fitting, chargeBytes]⟩
  | case2 n room => exact ⟨0, by cases n <;> simp [fitting, chargeBytes]⟩
  | case3 n room c cs fits ih =>
    obtain ⟨k, taken, atMost, within, fitsRoom, maximal⟩ := ih
    refine ⟨k + 1, ?_⟩
    simp only [fitting, fits, if_true, taken, List.take_succ_cons, chargeBytes_cons, List.length_cons]
    exact ⟨trivial, by omega⟩
  | case4 n room c cs tooBig =>
    have first : room < chargeBytes [c] := Nat.lt_of_not_le tooBig
    exact ⟨0, by simp [fitting, tooBig], Nat.zero_le _, Nat.zero_le _, Nat.zero_le _, .inr (.inr first)⟩

/-! ## CHARGE-POSTED (R144 to R146) -/

/-- Posting a record leaves the queue as it is: its money alone moves. -/
theorem postOne_posting (c : Charge) (s : State) : (postOne c s).posting = s.posting := by
  unfold postOne
  split
  · rfl
  · obtain ⟨u, written⟩ := writeAccount_cases c.account _ .posted s
    rw [written]
    rfl

theorem postAll_posting (cs : List Charge) (s : State) : (postAll cs s).posting = s.posting := by
  induction cs generalizing s with
  | nil => rfl
  | cons c cs ih => rw [postAll, ih, postOne_posting]

theorem postAll_eq_foldl (cs : List Charge) (s : State) : postAll cs s = cs.foldl (fun x c => postOne c x) s := by
  induction cs generalizing s with
  | nil => rfl
  | cons c cs ih => exact ih (postOne c s)

theorem raise_posting (name : NoticeName) (content : List Field) (s : State) :
    (raise name content s).posting = s.posting := by
  obtain ⟨u, raised, -⟩ := raise_cases name content s
  rw [raised]
  rfl

/-- The oldest k records gone and their money moved, the backlog lowered where R146 calls for it. -/
theorem removeCharges_eq (k : Nat) (s : State) :
    let p := s.posting
    let posted := postAll (p.committed.take k) s
    let left := p.committed.drop k
    removeCharges k s =
      if p.high = true ∧ left.length ≤ 64 then
        raise .backlogLow
          [.u2 left.length, .u2 p.reserved, .seq (left.head?.map (fun c => c.sequence)), seqField p.lastSeq]
          { posted with posting := { p with committed := left, high := false } }
      else { posted with posting := { p with committed := left } } := by
  simp only [removeCharges, postAll_posting]
  rfl

theorem removeCharges_posting (k : Nat) (s : State) :
    ∃ high, (removeCharges k s).posting = { s.posting with committed := s.posting.committed.drop k, high } := by
  rw [removeCharges_eq]
  split
  · exact ⟨false, raise_posting ..⟩
  · exact ⟨s.posting.high, rfl⟩

/-- The reply gives what the removal left of the queue. -/
theorem postedReply_removeCharges (k : Nat) (s : State) :
    postedReply k (removeCharges k s) =
      ⟨removeCharges k s, .ok,
        [.u2 k, .u2 (s.posting.committed.drop k).length,
          .seq ((s.posting.committed.drop k).head?.map (fun c => c.sequence)), seqField s.posting.lastSeq]⟩ := by
  obtain ⟨high, left⟩ := removeCharges_posting k s
  simp only [postedReply, left]
  rfl

section Posted

variable {len seq : Nat} {s : State}

theorem serveChargePosted_of_zero : serveChargePosted ⟨len, some 0⟩ s = refuse s .range := rfl

theorem serveChargePosted_of_ahead (place : s.posting.placeOf seq = .ahead) :
    serveChargePosted ⟨len, some seq⟩ s = refuse s .range := by
  simp only [serveChargePosted, orFormat_some, place, ite_self]

theorem serveChargePosted_of_behind (nonzero : seq ≠ 0) (place : s.posting.placeOf seq = .behind) :
    serveChargePosted ⟨len, some seq⟩ s = postedReply 0 s := by
  simp only [serveChargePosted, orFormat_some, place, nonzero, if_false]

theorem serveChargePosted_of_inQueue {back : Nat} (nonzero : seq ≠ 0) (place : s.posting.placeOf seq = .inQueue back) :
    serveChargePosted ⟨len, some seq⟩ s =
      postedReply (s.posting.committed.length - back) (removeCharges (s.posting.committed.length - back) s) := by
  simp only [serveChargePosted, orFormat_some, place, nonzero, if_false]

theorem exec_chargePosted_of_answer {tag : Byte} {u : State} {status : Code} {body : List Field} (ready : Ready s len)
    (answer : serveChargePosted ⟨len, some seq⟩ s = ⟨u, status, body⟩) :
    exec (.chargePosted tag ⟨len, some seq⟩) s = .next (replied 0x51 tag status body u) :=
  Tariff.exec_of_serveRequest (req := .chargePosted ⟨len, some seq⟩) ready rfl answer

end Posted

/-- Settles O22: the read by the longest front part that fits, the posting by the place of its sequence. -/
theorem postingQueueReadAndPosted : Obligations.PostingQueueReadAndPosted := by
  refine ⟨fun tag len seq s ready => ?read, fun tag len seq s ready => ⟨?zero, ?ahead, ?behind, ?inQueue⟩⟩
  case read =>
    obtain ⟨k, taken, atMost, within, fits, maximal⟩ := fitting_eq_take 8 1005 (s.posting.readFrom seq)
    have answer : serveChargeRead ⟨len, some seq⟩ s =
        ⟨s, .ok,
          [.u1 k, .u2 s.posting.committed.length, .u2 s.posting.reserved,
              .seq (s.posting.committed.head?.map (fun c => c.sequence)), seqField s.posting.lastSeq,
              .u1 (if s.posting.high then 1 else 0)] ++ ((s.posting.readFrom seq).take k).flatMap chargeAsRead⟩ := by
      have given : s.posting.read seq = (s.posting.readFrom seq).take k := taken
      simp only [serveChargeRead, orFormat_some, given, List.length_take_of_le within]
      rfl
    have run := Tariff.exec_of_serveRequest (c := .chargeRead tag _) (req := .chargeRead ⟨len, some seq⟩) (tag := tag)
      ready rfl answer
    rw [readFrom_eq] at within fits maximal run
    exact ⟨k, atMost, within, by omega, by omega, run⟩
  case zero =>
    rintro (rfl | noneIssued)
    · exact exec_chargePosted_of_answer ready serveChargePosted_of_zero
    · exact exec_chargePosted_of_answer ready (serveChargePosted_of_ahead (placeOf_of_noneIssued noneIssued))
  case ahead =>
    intro _ issued notIn ahead
    exact exec_chargePosted_of_answer ready (serveChargePosted_of_ahead (placeOf_of_ahead issued notIn ahead))
  case behind =>
    intro nonzero issued notIn behind
    exact exec_chargePosted_of_answer ready
      (serveChargePosted_of_behind nonzero (placeOf_of_behind issued notIn behind))
  case inQueue =>
    intro nonzero issued inQueue
    have answer := serveChargePosted_of_inQueue (len := len) nonzero (placeOf_of_inQueue issued inQueue)
    rw [postedReply_removeCharges, removeCharges_eq, postAll_eq_foldl] at answer
    exact exec_chargePosted_of_answer ready answer

end Sys2Proof.Proofs.PostingQueue
end
